-- ==== Sys2Proof/Word.lean ====
section
/-! DEFINITION. The word type of the block: every access of every space is exactly one byte (20_memory.md R61). -/

namespace Sys2Proof

/-- A byte: 8 bits, unsigned (00_scope.md R9). Raw bytes, key codes, table entries and sent bytes are bytes. -/
abbrev Byte := BitVec 8

end Sys2Proof
end

