-- ==== Sys2Proof/Config.lean ====
section
/-! DEFINITION. What an implementation fixes (00_scope.md R7) and the free values: the shape of KEYMAP, the byte
values the source names, the open firmware version, the open behaviour of RawKeySource's "reinitialize". -/

namespace Sys2Proof

/-- The parameter KEYMAP of 00_scope.md R7 together with FKEY_SET: the key codes that 30_encoding.md R91 (extended
codes `xc…`), R92 (`f1` to `f12`, whose set is FKEY_SET) and R93 (keypad codes `kp…`, `kpNumLk` for KC_KPNUMLK) take
as parameters. The codes that R90 gives by number for NUM LOCK, SCROLL LOCK, the shifts, Control, Caps Lock and Alt
are no parameters. -/
structure KeyMap where
  xcUp : Byte
  xcDown : Byte
  xcRight : Byte
  xcLeft : Byte
  xcIns : Byte
  xcDel : Byte
  xcHome : Byte
  xcEnd : Byte
  xcPgup : Byte
  xcPgdn : Byte
  xcKpenter : Byte
  xcKpslash : Byte
  xcRalt : Byte
  xcRctrl : Byte
  xcLwin : Byte
  xcRwin : Byte
  xcMenu : Byte
  xcPrtsc1 : Byte
  xcPrtsc2 : Byte
  f1 : Byte
  f2 : Byte
  f3 : Byte
  f4 : Byte
  f5 : Byte
  f6 : Byte
  f7 : Byte
  f8 : Byte
  f9 : Byte
  f10 : Byte
  f11 : Byte
  f12 : Byte
  kp0 : Byte
  kp1 : Byte
  kp2 : Byte
  kp3 : Byte
  kp4 : Byte
  kp5 : Byte
  kp6 : Byte
  kp7 : Byte
  kp8 : Byte
  kp9 : Byte
  kpDot : Byte
  kpStar : Byte
  kpMinus : Byte
  kpPlus : Byte
  kpNumLk : Byte
  deriving DecidableEq, Repr

namespace Config

/-- The nine byte values that phase IDLE treats specially (30_encoding.md R80): the six special bytes and the three
prefixes. -/
def idleBytes : List Byte := [0xFA, 0xAA, 0xEE, 0xFE, 0x00, 0xFF, 0xE0, 0xE1, 0xF0]

/-- FW_VERSION, the third banner byte (70_reset_and_hazards.md R311): OPEN in 00_scope.md R7, decision D9. A free
value: nothing constrains it (notes/assumptions/3.md). -/
opaque fwVersion : Byte

/-- Which of RawKeySource's undelivered bytes survive the `draw`-th "reinitialize", by position in the buffer
(93_implementation_defined.md U4: none, some or all may be deleted). A free value (notes/assumptions/4.md). -/
opaque reinitKeeps (draw position : Nat) : Bool

end Config

end Sys2Proof
end

