-- ==== Sys2Proof/Syntax.lean ====
section
/-! DEFINITION. The syntax: the decoder's phases, and one constructor per row of spec/opcode_table.json. A unit is
the analogue of one instruction (00_scope.md R2); `M` ends the make (press) form, `B` the break (release) form. -/

namespace Sys2Proof

/-- The 12 legal values of the decoder's phase register (10_state.md R25): which byte of a unit the block awaits. -/
inductive Phase where
  | boot | idle | rel | ext | extRel | p1 | p2 | p3 | p4 | p5 | p6 | p7
  deriving DecidableEq, Repr

/-- A logical input unit (30_encoding.md R80, R98): one constructor per row of the opcode table. A named unit has no
operand, its code being its key's; the four generic units carry the 8-bit `code` (R84). -/
inductive Instr where
  -- special units, format S (40_special_prefix_pause.md R120 to R125) and the Pause unit, format P (R131)
  | spFA | spAA | spEE | spFE | sp00 | spFF | pause
  -- lock keys and modifier keys (42_locks_modifiers_fkeys.md R190, R191, R195 to R199)
  | numlockM | numlockB | scrlockM | scrlockB | lshiftM | lshiftB | rshiftM | rshiftB | ctrlM | ctrlB
  | capsM | capsB | altM | altB
  -- function keys (42_locks_modifiers_fkeys.md R201 to R212)
  | f1M | f1B | f2M | f2B | f3M | f3B | f4M | f4B | f5M | f5B | f6M | f6B | f7M | f7B | f8M | f8B | f9M | f9B
  | f10M | f10B | f11M | f11B | f12M | f12B
  -- numeric keypad (43_keypad.md R232 to R245)
  | kp0M | kp0B | kp1M | kp1B | kp2M | kp2B | kp3M | kp3B | kp4M | kp4B | kp5M | kp5B | kp6M | kp6B
  | kp7M | kp7B | kp8M | kp8B | kp9M | kp9B | kpdotM | kpdotB | kpstarM | kpstarB | kpminusM | kpminusB
  | kpplusM | kpplusB
  -- extended keys (41_extended.md R151 to R169)
  | upM | upB | downM | downB | rightM | rightB | leftM | leftB | insM | insB | delM | delB | homeM | homeB
  | endM | endB | pgupM | pgupB | pgdnM | pgdnB | kpenterM | kpenterB | kpslashM | kpslashB | raltM | raltB
  | rctrlM | rctrlB | lwinM | lwinB | rwinM | rwinB | menuM | menuB | prtsc1M | prtsc1B | prtsc2M | prtsc2B
  -- every other key code, non-extended (44_ascii.md R264) and extended (41_extended.md R170)
  | keyM (code : Byte) | keyB (code : Byte) | xkeyM (code : Byte) | xkeyB (code : Byte)
  deriving DecidableEq, Repr

end Sys2Proof
end

