-- ==== Sys2Proof/WellFormed.lean ====
section
/-! DEFINITION. Well-formedness: of the parameter KEYMAP (30_encoding.md R94) and of a unit under a KEYMAP. -/

namespace Sys2Proof

/-- The non-extended codes that have a unit of their own, in the order of the dispatch stages (30_encoding.md R96):
R90's seven, FKEY_SET (R92), the 14 keypad codes of R93 other than KC_KPNUMLK. -/
def KeyMap.plainCodes (km : KeyMap) : List Byte :=
  [0x77, 0x7E, 0x12, 0x59, 0x14, 0x58, 0x11,
   km.f1, km.f2, km.f3, km.f4, km.f5, km.f6, km.f7, km.f8, km.f9, km.f10, km.f11, km.f12,
   km.kp0, km.kp1, km.kp2, km.kp3, km.kp4, km.kp5, km.kp6, km.kp7, km.kp8, km.kp9,
   km.kpDot, km.kpStar, km.kpMinus, km.kpPlus]

/-- The 19 extended codes of 30_encoding.md R91. -/
def KeyMap.extendedCodes (km : KeyMap) : List Byte :=
  [km.xcUp, km.xcDown, km.xcRight, km.xcLeft, km.xcIns, km.xcDel, km.xcHome, km.xcEnd, km.xcPgup, km.xcPgdn,
   km.xcKpenter, km.xcKpslash, km.xcRalt, km.xcRctrl, km.xcLwin, km.xcRwin, km.xcMenu, km.xcPrtsc1, km.xcPrtsc2]

/-- 30_encoding.md R94: (a) the extended codes are pairwise distinct, (b) so are the non-extended ones, (c) none of
them is one of the nine bytes that phase IDLE treats specially. -/
def KeyMap.wf (km : KeyMap) : Bool :=
  decide km.extendedCodes.Nodup && decide km.plainCodes.Nodup
    && (km.extendedCodes ++ km.plainCodes).all (fun c => !Config.idleBytes.contains c)

/-- A unit is well formed when its code is one its format admits and no named unit claims (30_encoding.md R80, R98;
41_extended.md R170; 44_ascii.md R264). Only the four generic units have a code of their own to check. -/
def Instr.wf (km : KeyMap) : Instr → Bool
  | .keyM c => !Config.idleBytes.contains c && !km.plainCodes.contains c
  | .keyB c => !km.plainCodes.contains c
  | .xkeyM c => c != 0xF0 && !km.extendedCodes.contains c
  | .xkeyB c => !km.extendedCodes.contains c
  | _ => true

end Sys2Proof
end

