-- ==== Sys2Proof/Decode.lean ====
section
/-! DEFINITION. The decoder (30_encoding.md R82; 40_special_prefix_pause.md R126 to R133), one byte at a time and
over whole byte lists, and after it the encoder (30_encoding.md R80, R98). -/

namespace Sys2Proof

/-- The default codes of 30_encoding.md R91, R92 and R93: PS/2 scan code set 2 (decision D11; PRESUMED,
notes/assumptions/8.md). -/
def KeyMap.scanSet2 : KeyMap where
  xcUp := 0x75
  xcDown := 0x72
  xcRight := 0x74
  xcLeft := 0x6B
  xcIns := 0x70
  xcDel := 0x71
  xcHome := 0x6C
  xcEnd := 0x69
  xcPgup := 0x7D
  xcPgdn := 0x7A
  xcKpenter := 0x5A
  xcKpslash := 0x4A
  xcRalt := 0x11
  xcRctrl := 0x14
  xcLwin := 0x1F
  xcRwin := 0x27
  xcMenu := 0x2F
  xcPrtsc1 := 0x12
  xcPrtsc2 := 0x7C
  f1 := 0x05
  f2 := 0x06
  f3 := 0x04
  f4 := 0x0C
  f5 := 0x03
  f6 := 0x0B
  f7 := 0x83
  f8 := 0x0A
  f9 := 0x01
  f10 := 0x09
  f11 := 0x78
  f12 := 0x07
  kp0 := 0x70
  kp1 := 0x69
  kp2 := 0x72
  kp3 := 0x7A
  kp4 := 0x6B
  kp5 := 0x73
  kp6 := 0x74
  kp7 := 0x6C
  kp8 := 0x75
  kp9 := 0x7D
  kpDot := 0x71
  kpStar := 0x7C
  kpMinus := 0x7B
  kpPlus := 0x79
  kpNumLk := 0x77

/-- One row of the opcode map: a key's code, its make unit, its break unit. -/
abbrev KeyRow := Byte × Instr × Instr

/-- The named non-extended keys in the order of the dispatch stages (30_encoding.md R96): where a KEYMAP gives two of
them one code, the first wins (R94). -/
def plainKeys (km : KeyMap) : List KeyRow :=
  [(0x77, .numlockM, .numlockB), (0x7E, .scrlockM, .scrlockB), (0x12, .lshiftM, .lshiftB),
   (0x59, .rshiftM, .rshiftB), (0x14, .ctrlM, .ctrlB), (0x58, .capsM, .capsB), (0x11, .altM, .altB),
   (km.f1, .f1M, .f1B), (km.f2, .f2M, .f2B), (km.f3, .f3M, .f3B), (km.f4, .f4M, .f4B), (km.f5, .f5M, .f5B),
   (km.f6, .f6M, .f6B), (km.f7, .f7M, .f7B), (km.f8, .f8M, .f8B), (km.f9, .f9M, .f9B), (km.f10, .f10M, .f10B),
   (km.f11, .f11M, .f11B), (km.f12, .f12M, .f12B),
   (km.kp0, .kp0M, .kp0B), (km.kp1, .kp1M, .kp1B), (km.kp2, .kp2M, .kp2B), (km.kp3, .kp3M, .kp3B),
   (km.kp4, .kp4M, .kp4B), (km.kp5, .kp5M, .kp5B), (km.kp6, .kp6M, .kp6B), (km.kp7, .kp7M, .kp7B),
   (km.kp8, .kp8M, .kp8B), (km.kp9, .kp9M, .kp9B), (km.kpDot, .kpdotM, .kpdotB), (km.kpStar, .kpstarM, .kpstarB),
   (km.kpMinus, .kpminusM, .kpminusB), (km.kpPlus, .kpplusM, .kpplusB)]

/-- The named extended keys in the order of 30_encoding.md R91. -/
def extendedKeys (km : KeyMap) : List KeyRow :=
  [(km.xcUp, .upM, .upB), (km.xcDown, .downM, .downB), (km.xcRight, .rightM, .rightB),
   (km.xcLeft, .leftM, .leftB), (km.xcIns, .insM, .insB), (km.xcDel, .delM, .delB), (km.xcHome, .homeM, .homeB),
   (km.xcEnd, .endM, .endB), (km.xcPgup, .pgupM, .pgupB), (km.xcPgdn, .pgdnM, .pgdnB),
   (km.xcKpenter, .kpenterM, .kpenterB), (km.xcKpslash, .kpslashM, .kpslashB), (km.xcRalt, .raltM, .raltB),
   (km.xcRctrl, .rctrlM, .rctrlB), (km.xcLwin, .lwinM, .lwinB), (km.xcRwin, .rwinM, .rwinB),
   (km.xcMenu, .menuM, .menuB), (km.xcPrtsc1, .prtsc1M, .prtsc1B), (km.xcPrtsc2, .prtsc2M, .prtsc2B)]

/-- The make or the break unit of the first row whose code is `c`, else the generic unit `other`: all 8 bits of the
code are compared (30_encoding.md R84, R96). -/
def unitOfCode (rows : List KeyRow) (other : Instr) (c : Byte) (release : Bool) : Instr :=
  match rows with
  | [] => other
  | (code, make, brk) :: rest => if c = code then (if release then brk else make) else unitOfCode rest other c release

/-- The unit of a non-extended key event (formats M and B). -/
def plainUnit (km : KeyMap) (c : Byte) (release : Bool) : Instr :=
  unitOfCode (plainKeys km) (if release then .keyB c else .keyM c) c release

/-- The unit of an extended key event (formats XM and XB). -/
def extendedUnit (km : KeyMap) (c : Byte) (release : Bool) : Instr :=
  unitOfCode (extendedKeys km) (if release then .xkeyB c else .xkeyM c) c release

/-- PAUSE_SEQ of 30_encoding.md R82: the continuation byte that phase P`k` expects, `k` from 1 to 7. -/
def pauseSeq : Nat → Byte
  | 1 => 0x14
  | 2 => 0x77
  | 3 => 0xE1
  | 4 => 0xF0
  | 5 => 0x14
  | 6 => 0xF0
  | 7 => 0x77
  | _ => 0x00

/-- What one raw byte makes of a phase (30_encoding.md R82): it completes a unit, moves the decoder on, or breaks a
Pause unit off at position `k`; in phase BOOT no byte is read (20_memory.md R51). -/
inductive Reading where
  | unit (i : Instr)
  | awaiting (p : Phase)
  | aborted (k : Nat)
  | notRead
  deriving DecidableEq, Repr

/-- Phase IDLE: the first byte of a unit (30_encoding.md R82; 40_special_prefix_pause.md R120 to R126, R128, R131,
R132). -/
def classifyFirst (km : KeyMap) (b : Byte) : Reading :=
  if b = 0xFA then .unit .spFA
  else if b = 0xAA then .unit .spAA
  else if b = 0xEE then .unit .spEE
  else if b = 0xFE then .unit .spFE
  else if b = 0x00 then .unit .sp00
  else if b = 0xFF then .unit .spFF
  else if b = 0xE0 then .awaiting .ext
  else if b = 0xE1 then .awaiting .p1
  else if b = 0xF0 then .awaiting .rel
  else .unit (plainUnit km b false)

/-- Phase P`k` of the Pause unit (40_special_prefix_pause.md R131; 60_exceptions.md R283). -/
def classifyPause (k : Nat) (b : Byte) (matched : Reading) : Reading :=
  if b = pauseSeq k then matched else .aborted k

/-- The decoder's reading of the byte `b` in a phase (40_special_prefix_pause.md R133). Bytes after the first are not
re-classified (30_encoding.md R83). -/
def classify (km : KeyMap) (p : Phase) (b : Byte) : Reading :=
  match p with
  | .boot => .notRead
  | .idle => classifyFirst km b
  | .rel => .unit (plainUnit km b true)
  | .ext => if b = 0xF0 then .awaiting .extRel else .unit (extendedUnit km b false)
  | .extRel => .unit (extendedUnit km b true)
  | .p1 => classifyPause 1 b (.awaiting .p2)
  | .p2 => classifyPause 2 b (.awaiting .p3)
  | .p3 => classifyPause 3 b (.awaiting .p4)
  | .p4 => classifyPause 4 b (.awaiting .p5)
  | .p5 => classifyPause 5 b (.awaiting .p6)
  | .p6 => classifyPause 6 b (.awaiting .p7)
  | .p7 => classifyPause 7 b (.unit .pause)

/-- The phase after the byte: a completed or broken-off unit leaves IDLE (30_encoding.md R82). -/
def nextPhase (km : KeyMap) (p : Phase) (b : Byte) : Phase :=
  match classify km p b with
  | .unit _ => .idle
  | .awaiting p' => p'
  | .aborted _ => .idle
  | .notRead => p

/-- Why a byte list is not a unit followed by a rest. -/
inductive DecodeError where
  /-- The bytes ended in phase `p`: the decoder waits for more (10_state.md R26). -/
  | incomplete (p : Phase)
  /-- PauseMismatch at position `k` by byte `b`; decoding resumes with `rest` (60_exceptions.md R283). -/
  | pauseMismatch (k : Nat) (b : Byte) (rest : List Byte)
  /-- No byte is read in phase BOOT (20_memory.md R51). -/
  | notRead
  deriving DecidableEq, Repr

/-- The first unit of a byte list, with the bytes after it, or why there is none. -/
inductive Decoded where
  | unit (i : Instr) (rest : List Byte)
  | rejected (e : DecodeError)
  deriving DecidableEq, Repr

/-- Decoding a byte list from phase `p`, byte by byte without look-ahead (30_encoding.md R82). -/
def decodeFrom (km : KeyMap) (p : Phase) (bytes : List Byte) : Decoded :=
  match bytes with
  | [] => .rejected (.incomplete p)
  | b :: rest =>
    match classify km p b with
    | .unit i => .unit i rest
    | .awaiting p' => decodeFrom km p' rest
    | .aborted k => .rejected (.pauseMismatch k b rest)
    | .notRead => .rejected .notRead

/-- Decoding a byte list at top level, phase IDLE. -/
def decode (km : KeyMap) (bytes : List Byte) : Decoded := decodeFrom km .idle bytes

/-- The low `n` bytes of `w`, least significant first. -/
def bytesOf (n w : Nat) : List Byte :=
  match n with
  | 0 => []
  | n + 1 => BitVec.ofNat 8 w :: bytesOf n (w / 256)

/-- The eight bytes of an instruction whose low `nbits` bits are `w` and whose bits above are 0, first byte first: 8
is the longest unit (30_encoding.md R80). -/
def tableBytes (nbits w : Nat) : List Byte := bytesOf 8 (w % 2 ^ nbits)

/-- The instruction the decoder reads from an opcode-table word under the default KEYMAP: the first byte of the unit
is bits 7..0 of `w`. -/
def decodeTableWord (nbits w : Nat) : Option Instr :=
  match decode KeyMap.scanSet2 (tableBytes nbits w) with
  | .unit i _ => some i
  | .rejected _ => none

/-- The bytes of a unit in arrival order (30_encoding.md R80, R98). -/
def encode (km : KeyMap) : Instr → List Byte
  | .spFA => [0xFA]
  | .spAA => [0xAA]
  | .spEE => [0xEE]
  | .spFE => [0xFE]
  | .sp00 => [0x00]
  | .spFF => [0xFF]
  | .pause => [0xE1, 0x14, 0x77, 0xE1, 0xF0, 0x14, 0xF0, 0x77]
  | .numlockM => [0x77]
  | .numlockB => [0xF0, 0x77]
  | .scrlockM => [0x7E]
  | .scrlockB => [0xF0, 0x7E]
  | .lshiftM => [0x12]
  | .lshiftB => [0xF0, 0x12]
  | .rshiftM => [0x59]
  | .rshiftB => [0xF0, 0x59]
  | .ctrlM => [0x14]
  | .ctrlB => [0xF0, 0x14]
  | .capsM => [0x58]
  | .capsB => [0xF0, 0x58]
  | .altM => [0x11]
  | .altB => [0xF0, 0x11]
  | .f1M => [km.f1]
  | .f1B => [0xF0, km.f1]
  | .f2M => [km.f2]
  | .f2B => [0xF0, km.f2]
  | .f3M => [km.f3]
  | .f3B => [0xF0, km.f3]
  | .f4M => [km.f4]
  | .f4B => [0xF0, km.f4]
  | .f5M => [km.f5]
  | .f5B => [0xF0, km.f5]
  | .f6M => [km.f6]
  | .f6B => [0xF0, km.f6]
  | .f7M => [km.f7]
  | .f7B => [0xF0, km.f7]
  | .f8M => [km.f8]
  | .f8B => [0xF0, km.f8]
  | .f9M => [km.f9]
  | .f9B => [0xF0, km.f9]
  | .f10M => [km.f10]
  | .f10B => [0xF0, km.f10]
  | .f11M => [km.f11]
  | .f11B => [0xF0, km.f11]
  | .f12M => [km.f12]
  | .f12B => [0xF0, km.f12]
  | .kp0M => [km.kp0]
  | .kp0B => [0xF0, km.kp0]
  | .kp1M => [km.kp1]
  | .kp1B => [0xF0, km.kp1]
  | .kp2M => [km.kp2]
  | .kp2B => [0xF0, km.kp2]
  | .kp3M => [km.kp3]
  | .kp3B => [0xF0, km.kp3]
  | .kp4M => [km.kp4]
  | .kp4B => [0xF0, km.kp4]
  | .kp5M => [km.kp5]
  | .kp5B => [0xF0, km.kp5]
  | .kp6M => [km.kp6]
  | .kp6B => [0xF0, km.kp6]
  | .kp7M => [km.kp7]
  | .kp7B => [0xF0, km.kp7]
  | .kp8M => [km.kp8]
  | .kp8B => [0xF0, km.kp8]
  | .kp9M => [km.kp9]
  | .kp9B => [0xF0, km.kp9]
  | .kpdotM => [km.kpDot]
  | .kpdotB => [0xF0, km.kpDot]
  | .kpstarM => [km.kpStar]
  | .kpstarB => [0xF0, km.kpStar]
  | .kpminusM => [km.kpMinus]
  | .kpminusB => [0xF0, km.kpMinus]
  | .kpplusM => [km.kpPlus]
  | .kpplusB => [0xF0, km.kpPlus]
  | .upM => [0xE0, km.xcUp]
  | .upB => [0xE0, 0xF0, km.xcUp]
  | .downM => [0xE0, km.xcDown]
  | .downB => [0xE0, 0xF0, km.xcDown]
  | .rightM => [0xE0, km.xcRight]
  | .rightB => [0xE0, 0xF0, km.xcRight]
  | .leftM => [0xE0, km.xcLeft]
  | .leftB => [0xE0, 0xF0, km.xcLeft]
  | .insM => [0xE0, km.xcIns]
  | .insB => [0xE0, 0xF0, km.xcIns]
  | .delM => [0xE0, km.xcDel]
  | .delB => [0xE0, 0xF0, km.xcDel]
  | .homeM => [0xE0, km.xcHome]
  | .homeB => [0xE0, 0xF0, km.xcHome]
  | .endM => [0xE0, km.xcEnd]
  | .endB => [0xE0, 0xF0, km.xcEnd]
  | .pgupM => [0xE0, km.xcPgup]
  | .pgupB => [0xE0, 0xF0, km.xcPgup]
  | .pgdnM => [0xE0, km.xcPgdn]
  | .pgdnB => [0xE0, 0xF0, km.xcPgdn]
  | .kpenterM => [0xE0, km.xcKpenter]
  | .kpenterB => [0xE0, 0xF0, km.xcKpenter]
  | .kpslashM => [0xE0, km.xcKpslash]
  | .kpslashB => [0xE0, 0xF0, km.xcKpslash]
  | .raltM => [0xE0, km.xcRalt]
  | .raltB => [0xE0, 0xF0, km.xcRalt]
  | .rctrlM => [0xE0, km.xcRctrl]
  | .rctrlB => [0xE0, 0xF0, km.xcRctrl]
  | .lwinM => [0xE0, km.xcLwin]
  | .lwinB => [0xE0, 0xF0, km.xcLwin]
  | .rwinM => [0xE0, km.xcRwin]
  | .rwinB => [0xE0, 0xF0, km.xcRwin]
  | .menuM => [0xE0, km.xcMenu]
  | .menuB => [0xE0, 0xF0, km.xcMenu]
  | .prtsc1M => [0xE0, km.xcPrtsc1]
  | .prtsc1B => [0xE0, 0xF0, km.xcPrtsc1]
  | .prtsc2M => [0xE0, km.xcPrtsc2]
  | .prtsc2B => [0xE0, 0xF0, km.xcPrtsc2]
  | .keyM c => [c]
  | .keyB c => [0xF0, c]
  | .xkeyM c => [0xE0, c]
  | .xkeyB c => [0xE0, 0xF0, c]

end Sys2Proof
end

