-- ==== Sys2Proof/Machine/Constants.lean ====
section
/-! DEFINITION. Numbers the rules name: the ASCII codes of 00_scope.md R8, the banner bytes, the default of
BAT_ACK_BYTE, and what a table entry reads as that nothing has listed. -/

namespace Sys2Proof.Machine

/-- ESC (00_scope.md R8; the one ASCII code the source gives). -/
def asciiEsc : Byte := 0x1B
/-- CR (00_scope.md R8). -/
def asciiCR : Byte := 0x0D
/-- '/' (00_scope.md R8). -/
def asciiSlash : Byte := 0x2F
/-- '?' (00_scope.md R8). -/
def asciiQuery : Byte := 0x3F
/-- 'A' (00_scope.md R8). -/
def asciiUpperA : Byte := 0x41
/-- 'B' (00_scope.md R8), also the second banner byte. -/
def asciiUpperB : Byte := 0x42
/-- 'C' (00_scope.md R8). -/
def asciiUpperC : Byte := 0x43
/-- 'D' (00_scope.md R8). -/
def asciiUpperD : Byte := 0x44
/-- 'K' (00_scope.md R8). -/
def asciiUpperK : Byte := 0x4B
/-- 'M' (00_scope.md R8). -/
def asciiUpperM : Byte := 0x4D
/-- 'P' (00_scope.md R8). -/
def asciiUpperP : Byte := 0x50
/-- 'Q' (00_scope.md R8). -/
def asciiUpperQ : Byte := 0x51
/-- 'R' (00_scope.md R8). -/
def asciiUpperR : Byte := 0x52
/-- 'p' (00_scope.md R8), the letter of keypad 0 (43_keypad.md R230). -/
def asciiLowerP : Byte := 0x70

/-- The first banner byte, 0x80 | 'K' (70_reset_and_hazards.md R311). -/
def bannerFirst : Byte := 0x80 ||| asciiUpperK

/-- The default of BAT_ACK_BYTE (00_scope.md R7, decision D8; notes/assumptions/9.md). -/
def defaultBatAck : Byte := 0xAA

/-- The table entries 20_memory.md R60 (c) and (d) settle, at code*4 + 0 of the default keypad codes: the digits, '.',
'*', '-' and '+' (bit 7, which R60 leaves open, is taken as 0). -/
def settledEntries : List (Nat × Byte) :=
  [(0x70 * 4, 0x30), (0x69 * 4, 0x31), (0x72 * 4, 0x32), (0x7A * 4, 0x33), (0x6B * 4, 0x34), (0x73 * 4, 0x35),
   (0x74 * 4, 0x36), (0x6C * 4, 0x37), (0x75 * 4, 0x38), (0x7D * 4, 0x39), (0x71 * 4, 0x2E), (0x7C * 4, 0x2A),
   (0x7B * 4, 0x2D), (0x79 * 4, 0x2B)]

/-- The entry that an address of the translation ROM reads as when the ROM's list has none for it: what the spec
settles, else 0x00, "no mapping" (20_memory.md R57, R60; DESIGN CHOICE, unsafe: notes/assumptions/5.md). -/
def romUnlisted (a : Nat) : Byte := (settledEntries.lookup a).getD 0x00

end Sys2Proof.Machine
end

