-- ==== Sys2Proof/Machine/State.lean ====
section
/-! DEFINITION. The state of the machine as plain data (10_state.md R20 to R37), its value after reset, the reasons a
step can stop. -/

namespace Sys2Proof.Machine

/-- The names of the four modifier registers (10_state.md R21). -/
inductive ModReg where
  | LS | RS | CT | CL
  deriving DecidableEq, Repr

/-- The modifier register file `m` (10_state.md R21): leftShift, rightShift, control, capsLock, one bit each. -/
structure Modifiers where
  ls : Bool
  rs : Bool
  ct : Bool
  cl : Bool
  deriving DecidableEq, Repr

/-- The option inputs opt.AK (applicationKeypad) and opt.SW (swapCapsAndControl) (10_state.md R30). -/
structure Options where
  ak : Bool
  sw : Bool
  deriving DecidableEq, Repr

/-- The external collaborator RawKeySource (20_memory.md R50; 10_state.md R32, R36): its bytes not yet read, whether
it answers "none yet" all the same, and its sticky error bitfield, whose width the source does not give. -/
structure RawKeySource where
  buffer : List Byte
  stalled : Bool
  status : Nat
  deriving DecidableEq, Repr

/-- The diagnostic events (20_memory.md R56). -/
inductive DiagEvent where
  | special (b : Byte)
  | pause
  | pauseAbort (k : Nat) (b : Byte)
  | xedit (code : Byte) (release : Bool)
  | xmod (code : Byte) (release : Bool)
  | winmenu (code : Byte)
  | prtsc (code : Byte) (release : Bool)
  | xunknown (code : Byte) (release : Bool)
  | lockkey (code : Byte)
  | fkey (code : Byte)
  | unknown (code : Byte) (release : Bool)
  | recover
  deriving DecidableEq, Repr

/-- One pseudocode primitive of a step (00_scope.md R10): `Tx(b)`, `Diag(e)`, `phase <- p`. -/
inductive Action where
  | tx (b : Byte)
  | diag (e : DiagEvent)
  | enter (p : Phase)
  deriving DecidableEq, Repr

/-- What the environment may do between two accesses of the block (20_memory.md R63, R68): deliver a raw byte, start
or end a stall of RawKeySource, set sticky error bits, change the options, become ready or cease to acknowledge. -/
inductive EnvEvent where
  | deliver (b : Byte)
  | stall (v : Bool)
  | raiseStatus (bits : Nat)
  | options (ak sw : Bool)
  | hostAcks (v : Bool)
  deriving DecidableEq, Repr

/-- The build-time parameters the block reads (00_scope.md R7; 10_state.md R33). Nothing writes them. -/
structure Params where
  keymap : KeyMap
  batAckByte : Byte
  deriving DecidableEq, Repr

/-- The contents of the translation ROM as a list of (address, byte) pairs (20_memory.md R57, R58); see Memory.read
and Memory.wf. -/
abbrev Memory := List Host.Cell

/-- The machine's state. `phase` and `m` are the block's own (10_state.md R20); `todo` is what its current step still
owes (10_state.md R36); `out`, `diag`, `inPos` are the streams (R35); `opt`, `rx`, `hostAcks`, `startCheckPassed` are
the environment's ports (R30, R32, R36; 70_reset_and_hazards.md R314); `rom`, `par` are constants (R33). `env` and
`freeDraws` are the model's own: the environment's script, one list of events a step, and the number of free values
drawn (notes/assumptions/1.md, 4.md). -/
structure State where
  phase : BitVec 4
  m : Modifiers
  todo : List Action
  opt : Options
  rx : RawKeySource
  hostAcks : Bool
  startCheckPassed : Bool
  out : List Byte
  diag : List DiagEvent
  inPos : Nat
  rom : Memory
  par : Params
  env : List (List EnvEvent)
  freeDraws : Nat
  deriving DecidableEq, Repr

/-- Why the machine stops with a fault. -/
inductive Fault where
  /-- Raised by `step` when the phase register holds one of the unused encodings 12 to 15 (10_state.md R25,
  93_implementation_defined.md U6). Safe: the spec treats such a state as a fault, and no run from reset reaches it. -/
  | illegalPhase
  deriving DecidableEq, Repr

/-- Why an instruction is refused. -/
inductive Refusal where
  /-- Raised by an arm of `exec` for a unit without a meaning; no arm raises it, since every unit has its meaning.
  Safe: the machine stops where the hardware goes on. -/
  | notModelled (mnemonic : String)
  deriving DecidableEq, Repr

/-- MOD_RESET (10_state.md R24; decision D13; notes/assumptions/6.md). -/
def modReset : Modifiers := { ls := false, rs := false, ct := false, cl := false }

/-- The parameters at the values 00_scope.md R7 gives them. -/
def defaultParams : Params := { keymap := KeyMap.scanSet2, batAckByte := defaultBatAck }

/-- The machine right after reset (10_state.md R37; 70_reset_and_hazards.md R310): phase BOOT (encoding 0), all
modifiers 0, both output streams empty. The environment's ports hold values the spec does not give
(notes/assumptions/7.md). -/
def State.reset : State where
  phase := 0
  m := modReset
  todo := []
  opt := { ak := false, sw := false }
  rx := { buffer := [], stalled := false, status := 0 }
  hostAcks := true
  startCheckPassed := true
  out := []
  diag := []
  inPos := 0
  rom := []
  par := defaultParams
  env := []
  freeDraws := 0

end Sys2Proof.Machine
end

