-- ==== Sys2Proof/Machine/Ops.lean ====
section
/-! DEFINITION. The named operations over the registers, the streams, the ports and the ROM; raising a condition; the
completion of a unit. -/

namespace Sys2Proof.Machine

/-- The 4-bit encoding of a phase (10_state.md R25, second column). -/
def phaseBits : Phase → BitVec 4
  | .boot => 0
  | .idle => 1
  | .rel => 2
  | .ext => 3
  | .extRel => 4
  | .p1 => 5
  | .p2 => 6
  | .p3 => 7
  | .p4 => 8
  | .p5 => 9
  | .p6 => 10
  | .p7 => 11

/-- The phase an encoding stands for; 12 to 15 stand for none (10_state.md R25). -/
def phaseOfBits (v : BitVec 4) : Option Phase :=
  if v = 0 then some .boot
  else if v = 1 then some .idle
  else if v = 2 then some .rel
  else if v = 3 then some .ext
  else if v = 4 then some .extRel
  else if v = 5 then some .p1
  else if v = 6 then some .p2
  else if v = 7 then some .p3
  else if v = 8 then some .p4
  else if v = 9 then some .p5
  else if v = 10 then some .p6
  else if v = 11 then some .p7
  else none

/-- `phase <- p` (00_scope.md R10). -/
def State.setPhase (s : State) (p : Phase) : State := { s with phase := phaseBits p }

/-- `m[X]` (00_scope.md R10). -/
def Modifiers.get (m : Modifiers) : ModReg → Bool
  | .LS => m.ls
  | .RS => m.rs
  | .CT => m.ct
  | .CL => m.cl

/-- `m[X] <- v`: writes one register and no other (10_state.md R22). -/
def Modifiers.set (m : Modifiers) (r : ModReg) (v : Bool) : Modifiers :=
  match r with
  | .LS => { m with ls := v }
  | .RS => { m with rs := v }
  | .CT => { m with ct := v }
  | .CL => { m with cl := v }

/-- `m[X] <- v` on the machine. -/
def State.setMod (s : State) (r : ModReg) (v : Bool) : State := { s with m := s.m.set r v }

/-- Whether the ROM's list is in canonical form: addresses strictly rising and below 512 (20_memory.md R64), no entry
equal to what its address reads as unlisted. -/
def Memory.wf (mem : Memory) : Bool :=
  decide (mem.Pairwise (fun a b => a.1 < b.1)) && mem.all (fun c => decide (c.1 < 512) && c.2 != romUnlisted c.1)

/-- MemRead(ROM, a, 1) (20_memory.md R58): 9-bit addresses, so every address is populated (R62, R64). -/
def Memory.read (mem : Memory) (a : BitVec 9) : Byte := (mem.lookup a.toNat).getD (romUnlisted a.toNat)

/-- Putting one entry into a ROM image and keeping the canonical form. No step writes the ROM (20_memory.md R57,
R67): this is how an image is bound at build time (70_reset_and_hazards.md R313 a). -/
def Memory.bind (mem : Memory) (a : Nat) (v : Byte) : Memory :=
  match mem with
  | [] => if v = romUnlisted a then [] else [(a, v)]
  | c :: rest =>
    if a < c.1 then (if v = romUnlisted a then c :: rest else (a, v) :: c :: rest)
    else if a = c.1 then (if v = romUnlisted a then rest else (a, v) :: rest)
    else c :: Memory.bind rest a v

/-- Performing a list of primitives in order until a `Tx` waits for the host: `Diag` appends to DIAG, `phase <- p`
writes the phase; the first `Tx` is offered and, with all after it, owed (20_memory.md R53, R56; 60_exceptions.md
R288). -/
def runActions (acts : List Action) (s : State) : State :=
  match acts with
  | [] => { s with todo := [] }
  | .tx b :: rest => { s with todo := .tx b :: rest }
  | .diag e :: rest => runActions rest { s with diag := s.diag ++ [e] }
  | .enter p :: rest => runActions rest (s.setPhase p)

/-- Starting the primitives of a step: they come after whatever an earlier step still owes, which is nothing when
`step` starts one (20_memory.md R51). -/
def State.perform (s : State) (acts : List Action) : State := runActions (s.todo ++ acts) s

/-- The host acknowledges the byte in flight: it is appended to OUT and the step goes on (20_memory.md R53). -/
def State.acknowledge (s : State) (b : Byte) (rest : List Action) : State :=
  runActions rest { s with out := s.out ++ [b] }

/-- The bytes of a list of primitives, in order. -/
def txBytes (acts : List Action) : List Byte :=
  match acts with
  | [] => []
  | .tx b :: rest => b :: txBytes rest
  | .diag _ :: rest => txBytes rest
  | .enter _ :: rest => txBytes rest

/-- The bytes of the current step's `out` not yet acknowledged (10_state.md R36). -/
def State.owed (s : State) : List Byte := txBytes s.todo

/-- TxEsc(c1, ..., cn) (20_memory.md R55): ESC first, then the characters in list order. -/
def txEsc (cs : List Byte) : List Action := .tx asciiEsc :: cs.map .tx

/-- `if release = 0: ...`: the primitives of a make, none for a break. -/
def onMake (release : Bool) (acts : List Action) : List Action := if release then [] else acts

/-- The error conditions a unit or the wait loop can raise (60_exceptions.md R280). -/
inductive Condition where
  | unknownKey (code : Byte) (release : Bool)
  | unknownExtended (code : Byte) (release : Bool)
  | pauseMismatch (k : Nat) (b : Byte)
  | transportError
  | hostStall
  deriving DecidableEq, Repr

/-- The cause numbers of 60_exceptions.md R280 (decision D19). -/
def Condition.cause : Condition → Nat
  | .unknownKey _ _ => 1
  | .unknownExtended _ _ => 2
  | .pauseMismatch _ _ => 3
  | .transportError => 4
  | .hostStall => 5

/-- `raise <Condition>(info)` (00_scope.md R10; 60_exceptions.md R280, R287): this hardware's whole exception entry.
Nothing is saved, no mode changes, no vector is fetched, control goes on; the only effect is the `Diag` event. A host
stall is undetected and writes none. There is no return from it, because nothing was entered. -/
def raise : Condition → List Action
  | .unknownKey code release => [.diag (.unknown code release)]
  | .unknownExtended code release => [.diag (.xunknown code release)]
  | .pauseMismatch k b => [.diag (.pauseAbort k b)]
  | .transportError => [.diag .recover]
  | .hostStall => []

/-- A unit is complete: `phase <- IDLE`, then the primitives its rule performs (40_special_prefix_pause.md R127, R129,
R130, R132). -/
def completeUnit (acts : List Action) (s : State) : Host.Outcome State Fault Refusal :=
  .next (s.perform (.enter .idle :: acts))

/-- "try read" (20_memory.md R50): a byte, or none yet when the buffer is empty or RawKeySource stalls. -/
def RawKeySource.tryRead (r : RawKeySource) : Option Byte := if r.stalled then none else r.buffer.head?

/-- `rx_err`: the sticky error bitfield is not zero (10_state.md R32). -/
def RawKeySource.err (r : RawKeySource) : Bool := r.status != 0

/-- The destructive read of one raw byte (20_memory.md R51, R52). -/
def State.consume (s : State) : State :=
  { s with rx := { s.rx with buffer := s.rx.buffer.tail }, inPos := s.inPos + 1 }

/-- What is left of the undelivered bytes after the `draw`-th "reinitialize", the first of them at `position`: which
are deleted is a free value (93_implementation_defined.md U4; notes/assumptions/4.md). -/
def keptBytes (draw position : Nat) (bytes : List Byte) : List Byte :=
  match bytes with
  | [] => []
  | b :: rest =>
    if Config.reinitKeeps draw position then b :: keptBytes draw (position + 1) rest
    else keptBytes draw (position + 1) rest

/-- "reinitialize" (20_memory.md R50; 60_exceptions.md R286): clears the sticky bits. -/
def State.reinitialize (s : State) : State :=
  { s with rx := { s.rx with status := 0, buffer := keptBytes s.freeDraws 0 s.rx.buffer }
           freeDraws := s.freeDraws + 1 }

/-- One action of the environment (20_memory.md R68). Error bits are sticky: they are or-ed in (10_state.md R32). -/
def EnvEvent.apply (e : EnvEvent) (s : State) : State :=
  match e with
  | .deliver b => { s with rx := { s.rx with buffer := s.rx.buffer ++ [b] } }
  | .stall v => { s with rx := { s.rx with stalled := v } }
  | .raiseStatus bits => { s with rx := { s.rx with status := s.rx.status ||| bits } }
  | .options ak sw => { s with opt := { ak := ak, sw := sw } }
  | .hostAcks v => { s with hostAcks := v }

/-- A list of environment actions, in order. -/
def applyEvents (es : List EnvEvent) (s : State) : State :=
  match es with
  | [] => s
  | e :: rest => applyEvents rest (e.apply s)

/-- The environment's part of a step: the first event list of the script (notes/assumptions/1.md). -/
def State.envTick (s : State) : State :=
  match s.env with
  | [] => s
  | es :: rest => applyEvents es { s with env := rest }

end Sys2Proof.Machine
end

