-- ==== Sys2Proof/Machine/Flags.lean ====
section
/-! DEFINITION. The derived conditions (10_state.md R28): combinational functions of `m`, never stored. -/

namespace Sys2Proof.Machine

/-- Combined shift, `m[LS] | m[RS]` (10_state.md R22, R28). -/
def shift (m : Modifiers) : Bool := m.get .LS || m.get .RS

/-- `shiftIndex = {m[CT], shift}`, 2 bits (10_state.md R28; 44_ascii.md R261). -/
def shiftIndex (m : Modifiers) : BitVec 2 := BitVec.ofBool (m.get .CT) ++ BitVec.ofBool (shift m)

end Sys2Proof.Machine
end

