-- ==== Sys2Proof/Machine/Operands.lean ====
section
/-! DEFINITION. Operand forms and the arithmetic of 44_ascii.md R266: the key event, the swap, the ROM address and
lookup, the mask, the casing, the keypad letter. -/

namespace Sys2Proof.Machine

/-- The transient value passed from the decoder to the dispatch engine (10_state.md R34). -/
structure KeyEvent where
  code : Byte
  release : Bool
  extended : Bool
  deriving DecidableEq, Repr

/-- Swap (42_locks_modifiers_fkeys.md R193). -/
def swapCode (sw : Bool) (c : Byte) : Byte :=
  if sw && c == 0x58 then 0x14 else if sw && c == 0x14 then 0x58 else c

/-- The 9-bit ROM address {code[6:0], idx[1:0]} (20_memory.md R58). -/
def romAddress (code : Byte) (idx : BitVec 2) : BitVec 9 := code.extractLsb 6 0 ++ idx

/-- Table(code, idx) for an event's 8-bit code: a code of 0x80 or above has no row and gives 0, "no mapping", without
a read (20_memory.md R58; 44_ascii.md R261). -/
def tableEntry (rom : Memory) (code : Byte) (idx : BitVec 2) : Byte :=
  if code ≥ 0x80 then 0x00 else Memory.read rom (romAddress code idx)

/-- The lookup of the ASCII stage with the modifiers of this instant (44_ascii.md R261). -/
def lookupEntry (rom : Memory) (m : Modifiers) (code : Byte) : Byte := tableEntry rom code (shiftIndex m)

/-- `e & 0x7F` as a 7-bit value (44_ascii.md R262). -/
def maskTo7 (e : Byte) : BitVec 7 := e.extractLsb 6 0

/-- CapsAdjust (44_ascii.md R263). -/
def capsAdjust (cl : Bool) (v : BitVec 7) : BitVec 7 :=
  if cl && decide (0x61 ≤ v) && decide (v ≤ 0x7A) then v - 0x20 else v

/-- The byte the ASCII stage sends for a non-zero entry: masked, cased, zero-extended (44_ascii.md R262). -/
def asciiByte (m : Modifiers) (e : Byte) : Byte := (capsAdjust (m.get .CL) (maskTo7 e)).zeroExtend 8

/-- The letter of a keypad digit, 10 standing for '.': `0x70 + KP_DIGIT` (43_keypad.md R230). -/
def keypadLetter (digit : Nat) : Byte := asciiLowerP + BitVec.ofNat 8 digit

end Sys2Proof.Machine
end

