-- ==== Sys2Proof/Machine/Ascii.lean ====
section
/-! DEFINITION. Stages 6 and 7 of the dispatch (44_ascii.md): the ROM lookup and the unknown code; the generic units. -/

namespace Sys2Proof.Machine

/-- The primitives of stages 6 and 7: lookup (44_ascii.md R261), mask and emit (R262, R263), or UnknownKey (R265). -/
def asciiActions (rom : Memory) (m : Modifiers) (code : Byte) (release : Bool) : List Action :=
  if lookupEntry rom m code = 0x00 then raise (.unknownKey code release)
  else onMake release [.tx (asciiByte m (lookupEntry rom m code))]

/-- AsciiStage(ev) and, where it does not handle the event, stage 7 (44_ascii.md R260 to R265). -/
def asciiUnit (code : Byte) (release : Bool) (s : State) : Host.Outcome State Fault Refusal :=
  completeUnit (asciiActions s.rom s.m code release) s

/-- An ordinary key: the keypad Num-Lock variant, where KEYMAP gives it a code that no named unit has, is swallowed
when opt.AK = 1 (43_keypad.md R246); every other code goes to the ASCII stage (44_ascii.md R264). -/
def ordinaryKey (code : Byte) (release : Bool) (s : State) : Host.Outcome State Fault Refusal :=
  if s.opt.ak && code == s.par.keymap.kpNumLk then completeUnit [] s else asciiUnit code release s

/-- KEY.M cc (44_ascii.md R264). -/
def execKeyM (code : Byte) (s : State) : Host.Outcome State Fault Refusal := ordinaryKey code false s

/-- KEY.B cc (44_ascii.md R264). -/
def execKeyB (code : Byte) (s : State) : Host.Outcome State Fault Refusal := ordinaryKey code true s

end Sys2Proof.Machine
end

