-- ==== Sys2Proof/Machine/Extended.lean ====
section
/-! DEFINITION. The extended stage (41_extended.md R150 to R170): no unit here reads or writes `m`, opt.SW or the ROM,
and no break sends a byte. -/

namespace Sys2Proof.Machine

/-- An arrow key: ESC and its letter on press only (41_extended.md section 2). -/
def arrowKey (letter : Byte) (release : Bool) (s : State) : Host.Outcome State Fault Refusal :=
  completeUnit (onMake release (txEsc [letter])) s

/-- An editing-keypad key: a diagnostic on make and on break (41_extended.md section 3). -/
def editingKey (code : Byte) (release : Bool) (s : State) : Host.Outcome State Fault Refusal :=
  completeUnit [.diag (.xedit code release)] s

/-- Keypad Enter and keypad "/": an escape sequence when opt.AK = 1, else a plain byte, on press only
(41_extended.md section 4). -/
def keypadExtra (escape : List Byte) (plain : Byte) (release : Bool) (s : State) :
    Host.Outcome State Fault Refusal :=
  completeUnit (onMake release (if s.opt.ak then txEsc escape else [.tx plain])) s

/-- Right Alt and right Control: swallowed with a diagnostic, `m` untouched (41_extended.md section 5). -/
def extendedModifier (code : Byte) (release : Bool) (s : State) : Host.Outcome State Fault Refusal :=
  completeUnit [.diag (.xmod code release)] s

/-- Windows and Menu: swallowed, logged on press only (41_extended.md section 6). -/
def windowsKey (code : Byte) (release : Bool) (s : State) : Host.Outcome State Fault Refusal :=
  completeUnit (onMake release [.diag (.winmenu code)]) s

/-- A Print-Screen half: a diagnostic no-op (41_extended.md section 7). -/
def printScreenHalf (code : Byte) (release : Bool) (s : State) : Host.Outcome State Fault Refusal :=
  completeUnit [.diag (.prtsc code release)] s

/-- Any other extended code: UnknownExtended (41_extended.md R170). -/
def unknownExtendedKey (code : Byte) (release : Bool) (s : State) : Host.Outcome State Fault Refusal :=
  completeUnit (raise (.unknownExtended code release)) s

/-- UP.M (41_extended.md R151). -/
def execUpM (s : State) : Host.Outcome State Fault Refusal := arrowKey asciiUpperA false s

/-- UP.B (41_extended.md R151). -/
def execUpB (s : State) : Host.Outcome State Fault Refusal := arrowKey asciiUpperA true s

/-- DOWN.M (41_extended.md R152). -/
def execDownM (s : State) : Host.Outcome State Fault Refusal := arrowKey asciiUpperB false s

/-- DOWN.B (41_extended.md R152). -/
def execDownB (s : State) : Host.Outcome State Fault Refusal := arrowKey asciiUpperB true s

/-- RIGHT.M (41_extended.md R153). -/
def execRightM (s : State) : Host.Outcome State Fault Refusal := arrowKey asciiUpperC false s

/-- RIGHT.B (41_extended.md R153). -/
def execRightB (s : State) : Host.Outcome State Fault Refusal := arrowKey asciiUpperC true s

/-- LEFT.M (41_extended.md R154). -/
def execLeftM (s : State) : Host.Outcome State Fault Refusal := arrowKey asciiUpperD false s

/-- LEFT.B (41_extended.md R154). -/
def execLeftB (s : State) : Host.Outcome State Fault Refusal := arrowKey asciiUpperD true s

/-- INS.M (41_extended.md R155). -/
def execInsM (s : State) : Host.Outcome State Fault Refusal := editingKey s.par.keymap.xcIns false s

/-- INS.B (41_extended.md R155). -/
def execInsB (s : State) : Host.Outcome State Fault Refusal := editingKey s.par.keymap.xcIns true s

/-- DEL.M (41_extended.md R156). -/
def execDelM (s : State) : Host.Outcome State Fault Refusal := editingKey s.par.keymap.xcDel false s

/-- DEL.B (41_extended.md R156). -/
def execDelB (s : State) : Host.Outcome State Fault Refusal := editingKey s.par.keymap.xcDel true s

/-- HOME.M (41_extended.md R157). -/
def execHomeM (s : State) : Host.Outcome State Fault Refusal := editingKey s.par.keymap.xcHome false s

/-- HOME.B (41_extended.md R157). -/
def execHomeB (s : State) : Host.Outcome State Fault Refusal := editingKey s.par.keymap.xcHome true s

/-- END.M (41_extended.md R158). -/
def execEndM (s : State) : Host.Outcome State Fault Refusal := editingKey s.par.keymap.xcEnd false s

/-- END.B (41_extended.md R158). -/
def execEndB (s : State) : Host.Outcome State Fault Refusal := editingKey s.par.keymap.xcEnd true s

/-- PGUP.M (41_extended.md R159). -/
def execPgupM (s : State) : Host.Outcome State Fault Refusal := editingKey s.par.keymap.xcPgup false s

/-- PGUP.B (41_extended.md R159). -/
def execPgupB (s : State) : Host.Outcome State Fault Refusal := editingKey s.par.keymap.xcPgup true s

/-- PGDN.M (41_extended.md R160). -/
def execPgdnM (s : State) : Host.Outcome State Fault Refusal := editingKey s.par.keymap.xcPgdn false s

/-- PGDN.B (41_extended.md R160). -/
def execPgdnB (s : State) : Host.Outcome State Fault Refusal := editingKey s.par.keymap.xcPgdn true s

/-- KPENTER.M (41_extended.md R161). -/
def execKpenterM (s : State) : Host.Outcome State Fault Refusal := keypadExtra [asciiQuery, asciiUpperM] asciiCR false s

/-- KPENTER.B (41_extended.md R161). -/
def execKpenterB (s : State) : Host.Outcome State Fault Refusal := keypadExtra [asciiQuery, asciiUpperM] asciiCR true s

/-- KPSLASH.M (41_extended.md R162). -/
def execKpslashM (s : State) : Host.Outcome State Fault Refusal := keypadExtra [asciiUpperP] asciiSlash false s

/-- KPSLASH.B (41_extended.md R162). -/
def execKpslashB (s : State) : Host.Outcome State Fault Refusal := keypadExtra [asciiUpperP] asciiSlash true s

/-- RALT.M (41_extended.md R163). -/
def execRaltM (s : State) : Host.Outcome State Fault Refusal := extendedModifier s.par.keymap.xcRalt false s

/-- RALT.B (41_extended.md R163). -/
def execRaltB (s : State) : Host.Outcome State Fault Refusal := extendedModifier s.par.keymap.xcRalt true s

/-- RCTRL.M (41_extended.md R164). -/
def execRctrlM (s : State) : Host.Outcome State Fault Refusal := extendedModifier s.par.keymap.xcRctrl false s

/-- RCTRL.B (41_extended.md R164). -/
def execRctrlB (s : State) : Host.Outcome State Fault Refusal := extendedModifier s.par.keymap.xcRctrl true s

/-- LWIN.M (41_extended.md R165). -/
def execLwinM (s : State) : Host.Outcome State Fault Refusal := windowsKey s.par.keymap.xcLwin false s

/-- LWIN.B (41_extended.md R165). -/
def execLwinB (s : State) : Host.Outcome State Fault Refusal := windowsKey s.par.keymap.xcLwin true s

/-- RWIN.M (41_extended.md R166). -/
def execRwinM (s : State) : Host.Outcome State Fault Refusal := windowsKey s.par.keymap.xcRwin false s

/-- RWIN.B (41_extended.md R166). -/
def execRwinB (s : State) : Host.Outcome State Fault Refusal := windowsKey s.par.keymap.xcRwin true s

/-- MENU.M (41_extended.md R167). -/
def execMenuM (s : State) : Host.Outcome State Fault Refusal := windowsKey s.par.keymap.xcMenu false s

/-- MENU.B (41_extended.md R167). -/
def execMenuB (s : State) : Host.Outcome State Fault Refusal := windowsKey s.par.keymap.xcMenu true s

/-- PRTSC1.M (41_extended.md R168). -/
def execPrtsc1M (s : State) : Host.Outcome State Fault Refusal := printScreenHalf s.par.keymap.xcPrtsc1 false s

/-- PRTSC1.B (41_extended.md R168). -/
def execPrtsc1B (s : State) : Host.Outcome State Fault Refusal := printScreenHalf s.par.keymap.xcPrtsc1 true s

/-- PRTSC2.M (41_extended.md R169). -/
def execPrtsc2M (s : State) : Host.Outcome State Fault Refusal := printScreenHalf s.par.keymap.xcPrtsc2 false s

/-- PRTSC2.B (41_extended.md R169). -/
def execPrtsc2B (s : State) : Host.Outcome State Fault Refusal := printScreenHalf s.par.keymap.xcPrtsc2 true s

/-- XKEY.M cc (41_extended.md R170). -/
def execXkeyM (code : Byte) (s : State) : Host.Outcome State Fault Refusal := unknownExtendedKey code false s

/-- XKEY.B cc (41_extended.md R170). -/
def execXkeyB (code : Byte) (s : State) : Host.Outcome State Fault Refusal := unknownExtendedKey code true s

end Sys2Proof.Machine
end

