-- ==== Sys2Proof/Machine/FunctionKeys.lean ====
section
/-! DEFINITION. Stage 3 of the dispatch: the function keys (42_locks_modifiers_fkeys.md R200 to R212). -/

namespace Sys2Proof.Machine

/-- FkeyStage: swallowed, logged on press only (42_locks_modifiers_fkeys.md R200). -/
def functionKey (code : Byte) (release : Bool) (s : State) : Host.Outcome State Fault Refusal :=
  completeUnit (onMake release [.diag (.fkey code)]) s

/-- F1.M (42_locks_modifiers_fkeys.md R201). -/
def execF1M (s : State) : Host.Outcome State Fault Refusal := functionKey s.par.keymap.f1 false s

/-- F1.B (42_locks_modifiers_fkeys.md R201). -/
def execF1B (s : State) : Host.Outcome State Fault Refusal := functionKey s.par.keymap.f1 true s

/-- F2.M (42_locks_modifiers_fkeys.md R202). -/
def execF2M (s : State) : Host.Outcome State Fault Refusal := functionKey s.par.keymap.f2 false s

/-- F2.B (42_locks_modifiers_fkeys.md R202). -/
def execF2B (s : State) : Host.Outcome State Fault Refusal := functionKey s.par.keymap.f2 true s

/-- F3.M (42_locks_modifiers_fkeys.md R203). -/
def execF3M (s : State) : Host.Outcome State Fault Refusal := functionKey s.par.keymap.f3 false s

/-- F3.B (42_locks_modifiers_fkeys.md R203). -/
def execF3B (s : State) : Host.Outcome State Fault Refusal := functionKey s.par.keymap.f3 true s

/-- F4.M (42_locks_modifiers_fkeys.md R204). -/
def execF4M (s : State) : Host.Outcome State Fault Refusal := functionKey s.par.keymap.f4 false s

/-- F4.B (42_locks_modifiers_fkeys.md R204). -/
def execF4B (s : State) : Host.Outcome State Fault Refusal := functionKey s.par.keymap.f4 true s

/-- F5.M (42_locks_modifiers_fkeys.md R205). -/
def execF5M (s : State) : Host.Outcome State Fault Refusal := functionKey s.par.keymap.f5 false s

/-- F5.B (42_locks_modifiers_fkeys.md R205). -/
def execF5B (s : State) : Host.Outcome State Fault Refusal := functionKey s.par.keymap.f5 true s

/-- F6.M (42_locks_modifiers_fkeys.md R206). -/
def execF6M (s : State) : Host.Outcome State Fault Refusal := functionKey s.par.keymap.f6 false s

/-- F6.B (42_locks_modifiers_fkeys.md R206). -/
def execF6B (s : State) : Host.Outcome State Fault Refusal := functionKey s.par.keymap.f6 true s

/-- F7.M (42_locks_modifiers_fkeys.md R207). -/
def execF7M (s : State) : Host.Outcome State Fault Refusal := functionKey s.par.keymap.f7 false s

/-- F7.B (42_locks_modifiers_fkeys.md R207). -/
def execF7B (s : State) : Host.Outcome State Fault Refusal := functionKey s.par.keymap.f7 true s

/-- F8.M (42_locks_modifiers_fkeys.md R208). -/
def execF8M (s : State) : Host.Outcome State Fault Refusal := functionKey s.par.keymap.f8 false s

/-- F8.B (42_locks_modifiers_fkeys.md R208). -/
def execF8B (s : State) : Host.Outcome State Fault Refusal := functionKey s.par.keymap.f8 true s

/-- F9.M (42_locks_modifiers_fkeys.md R209). -/
def execF9M (s : State) : Host.Outcome State Fault Refusal := functionKey s.par.keymap.f9 false s

/-- F9.B (42_locks_modifiers_fkeys.md R209). -/
def execF9B (s : State) : Host.Outcome State Fault Refusal := functionKey s.par.keymap.f9 true s

/-- F10.M (42_locks_modifiers_fkeys.md R210). -/
def execF10M (s : State) : Host.Outcome State Fault Refusal := functionKey s.par.keymap.f10 false s

/-- F10.B (42_locks_modifiers_fkeys.md R210). -/
def execF10B (s : State) : Host.Outcome State Fault Refusal := functionKey s.par.keymap.f10 true s

/-- F11.M (42_locks_modifiers_fkeys.md R211). -/
def execF11M (s : State) : Host.Outcome State Fault Refusal := functionKey s.par.keymap.f11 false s

/-- F11.B (42_locks_modifiers_fkeys.md R211). -/
def execF11B (s : State) : Host.Outcome State Fault Refusal := functionKey s.par.keymap.f11 true s

/-- F12.M (42_locks_modifiers_fkeys.md R212). -/
def execF12M (s : State) : Host.Outcome State Fault Refusal := functionKey s.par.keymap.f12 false s

/-- F12.B (42_locks_modifiers_fkeys.md R212). -/
def execF12B (s : State) : Host.Outcome State Fault Refusal := functionKey s.par.keymap.f12 true s

end Sys2Proof.Machine
end

