-- ==== Sys2Proof/Machine/Keypad.lean ====
section
/-! DEFINITION. Stages 4 and 5 of the dispatch: the numeric keypad (43_keypad.md R230 to R247). -/

namespace Sys2Proof.Machine

/-- A keypad unit: with opt.AK = 1 its make sends `acts` and its break is consumed (43_keypad.md R230, R231); with
opt.AK = 0 it is an ordinary key of the ASCII stage (R247). -/
def keypadKey (code : Byte) (acts : List Action) (release : Bool) (s : State) : Host.Outcome State Fault Refusal :=
  if s.opt.ak then completeUnit (onMake release acts) s else asciiUnit code release s

/-- A digit or '.': ESC '?' and its letter (43_keypad.md R230). -/
def keypadDigit (code : Byte) (digit : Nat) (release : Bool) (s : State) : Host.Outcome State Fault Refusal :=
  keypadKey code (txEsc [asciiQuery, keypadLetter digit]) release s

/-- KP0.M (43_keypad.md R232). -/
def execKp0M (s : State) : Host.Outcome State Fault Refusal := keypadDigit s.par.keymap.kp0 0 false s

/-- KP0.B (43_keypad.md R232). -/
def execKp0B (s : State) : Host.Outcome State Fault Refusal := keypadDigit s.par.keymap.kp0 0 true s

/-- KP1.M (43_keypad.md R233). -/
def execKp1M (s : State) : Host.Outcome State Fault Refusal := keypadDigit s.par.keymap.kp1 1 false s

/-- KP1.B (43_keypad.md R233). -/
def execKp1B (s : State) : Host.Outcome State Fault Refusal := keypadDigit s.par.keymap.kp1 1 true s

/-- KP2.M (43_keypad.md R234). -/
def execKp2M (s : State) : Host.Outcome State Fault Refusal := keypadDigit s.par.keymap.kp2 2 false s

/-- KP2.B (43_keypad.md R234). -/
def execKp2B (s : State) : Host.Outcome State Fault Refusal := keypadDigit s.par.keymap.kp2 2 true s

/-- KP3.M (43_keypad.md R235). -/
def execKp3M (s : State) : Host.Outcome State Fault Refusal := keypadDigit s.par.keymap.kp3 3 false s

/-- KP3.B (43_keypad.md R235). -/
def execKp3B (s : State) : Host.Outcome State Fault Refusal := keypadDigit s.par.keymap.kp3 3 true s

/-- KP4.M (43_keypad.md R236). -/
def execKp4M (s : State) : Host.Outcome State Fault Refusal := keypadDigit s.par.keymap.kp4 4 false s

/-- KP4.B (43_keypad.md R236). -/
def execKp4B (s : State) : Host.Outcome State Fault Refusal := keypadDigit s.par.keymap.kp4 4 true s

/-- KP5.M (43_keypad.md R237). -/
def execKp5M (s : State) : Host.Outcome State Fault Refusal := keypadDigit s.par.keymap.kp5 5 false s

/-- KP5.B (43_keypad.md R237). -/
def execKp5B (s : State) : Host.Outcome State Fault Refusal := keypadDigit s.par.keymap.kp5 5 true s

/-- KP6.M (43_keypad.md R238). -/
def execKp6M (s : State) : Host.Outcome State Fault Refusal := keypadDigit s.par.keymap.kp6 6 false s

/-- KP6.B (43_keypad.md R238). -/
def execKp6B (s : State) : Host.Outcome State Fault Refusal := keypadDigit s.par.keymap.kp6 6 true s

/-- KP7.M (43_keypad.md R239). -/
def execKp7M (s : State) : Host.Outcome State Fault Refusal := keypadDigit s.par.keymap.kp7 7 false s

/-- KP7.B (43_keypad.md R239). -/
def execKp7B (s : State) : Host.Outcome State Fault Refusal := keypadDigit s.par.keymap.kp7 7 true s

/-- KP8.M (43_keypad.md R240). -/
def execKp8M (s : State) : Host.Outcome State Fault Refusal := keypadDigit s.par.keymap.kp8 8 false s

/-- KP8.B (43_keypad.md R240). -/
def execKp8B (s : State) : Host.Outcome State Fault Refusal := keypadDigit s.par.keymap.kp8 8 true s

/-- KP9.M (43_keypad.md R241). -/
def execKp9M (s : State) : Host.Outcome State Fault Refusal := keypadDigit s.par.keymap.kp9 9 false s

/-- KP9.B (43_keypad.md R241). -/
def execKp9B (s : State) : Host.Outcome State Fault Refusal := keypadDigit s.par.keymap.kp9 9 true s

/-- KPDOT.M (43_keypad.md R242). -/
def execKpdotM (s : State) : Host.Outcome State Fault Refusal := keypadDigit s.par.keymap.kpDot 10 false s

/-- KPDOT.B (43_keypad.md R242). -/
def execKpdotB (s : State) : Host.Outcome State Fault Refusal := keypadDigit s.par.keymap.kpDot 10 true s

/-- KPSTAR.M (43_keypad.md R243). -/
def execKpstarM (s : State) : Host.Outcome State Fault Refusal := keypadKey s.par.keymap.kpStar (txEsc [asciiUpperQ]) false s

/-- KPSTAR.B (43_keypad.md R243). -/
def execKpstarB (s : State) : Host.Outcome State Fault Refusal := keypadKey s.par.keymap.kpStar (txEsc [asciiUpperQ]) true s

/-- KPMINUS.M (43_keypad.md R244). -/
def execKpminusM (s : State) : Host.Outcome State Fault Refusal := keypadKey s.par.keymap.kpMinus (txEsc [asciiUpperR]) false s

/-- KPMINUS.B (43_keypad.md R244). -/
def execKpminusB (s : State) : Host.Outcome State Fault Refusal := keypadKey s.par.keymap.kpMinus (txEsc [asciiUpperR]) true s

/-- KPPLUS.M (43_keypad.md R245). -/
def execKpplusM (s : State) : Host.Outcome State Fault Refusal := keypadKey s.par.keymap.kpPlus [] false s

/-- KPPLUS.B (43_keypad.md R245). -/
def execKpplusB (s : State) : Host.Outcome State Fault Refusal := keypadKey s.par.keymap.kpPlus [] true s

end Sys2Proof.Machine
end

