-- ==== Sys2Proof/Machine/Locks.lean ====
section
/-! DEFINITION. Stage 1 of the dispatch: the lock keys (42_locks_modifiers_fkeys.md R190, R191). -/

namespace Sys2Proof.Machine

/-- A lock key: swallowed, logged on press only (42_locks_modifiers_fkeys.md section 1). -/
def lockKey (code : Byte) (release : Bool) (s : State) : Host.Outcome State Fault Refusal :=
  completeUnit (onMake release [.diag (.lockkey code)]) s

/-- NUMLOCK.M (42_locks_modifiers_fkeys.md R190). -/
def execNumlockM (s : State) : Host.Outcome State Fault Refusal := lockKey 0x77 false s

/-- NUMLOCK.B (42_locks_modifiers_fkeys.md R190). -/
def execNumlockB (s : State) : Host.Outcome State Fault Refusal := lockKey 0x77 true s

/-- SCRLOCK.M (42_locks_modifiers_fkeys.md R191). -/
def execScrlockM (s : State) : Host.Outcome State Fault Refusal := lockKey 0x7E false s

/-- SCRLOCK.B (42_locks_modifiers_fkeys.md R191). -/
def execScrlockB (s : State) : Host.Outcome State Fault Refusal := lockKey 0x7E true s

end Sys2Proof.Machine
end

