-- ==== Sys2Proof/Machine/Modifiers.lean ====
section
/-! DEFINITION. Stage 2 of the dispatch: the modifier keys, the only writers of `m` (42_locks_modifiers_fkeys.md R192
to R199). -/

namespace Sys2Proof.Machine

/-- A level register follows its key: `m[X] <- !release` (10_state.md R23). -/
def levelKey (r : ModReg) (release : Bool) (s : State) : Host.Outcome State Fault Refusal :=
  completeUnit [] (s.setMod r (!release))

/-- The toggle register: each make inverts `m[CL]`, the break does nothing (10_state.md R23). -/
def toggleKey (release : Bool) (s : State) : Host.Outcome State Fault Refusal :=
  completeUnit [] (if release then s else s.setMod .CL (!s.m.get .CL))

/-- The key of code 0x14 (42_locks_modifiers_fkeys.md R197): control, or caps lock when opt.SW = 1. -/
def controlKey (release : Bool) (s : State) : Host.Outcome State Fault Refusal :=
  if s.opt.sw then toggleKey release s else levelKey .CT release s

/-- The key of code 0x58 (42_locks_modifiers_fkeys.md R198): caps lock, or control when opt.SW = 1. -/
def capsKey (release : Bool) (s : State) : Host.Outcome State Fault Refusal :=
  if s.opt.sw then levelKey .CT release s else toggleKey release s

/-- LSHIFT.M (42_locks_modifiers_fkeys.md R195). -/
def execLshiftM (s : State) : Host.Outcome State Fault Refusal := levelKey .LS false s

/-- LSHIFT.B (42_locks_modifiers_fkeys.md R195). -/
def execLshiftB (s : State) : Host.Outcome State Fault Refusal := levelKey .LS true s

/-- RSHIFT.M (42_locks_modifiers_fkeys.md R196). -/
def execRshiftM (s : State) : Host.Outcome State Fault Refusal := levelKey .RS false s

/-- RSHIFT.B (42_locks_modifiers_fkeys.md R196). -/
def execRshiftB (s : State) : Host.Outcome State Fault Refusal := levelKey .RS true s

/-- CTRL.M (42_locks_modifiers_fkeys.md R197). -/
def execCtrlM (s : State) : Host.Outcome State Fault Refusal := controlKey false s

/-- CTRL.B (42_locks_modifiers_fkeys.md R197). -/
def execCtrlB (s : State) : Host.Outcome State Fault Refusal := controlKey true s

/-- CAPS.M (42_locks_modifiers_fkeys.md R198). -/
def execCapsM (s : State) : Host.Outcome State Fault Refusal := capsKey false s

/-- CAPS.B (42_locks_modifiers_fkeys.md R198). -/
def execCapsB (s : State) : Host.Outcome State Fault Refusal := capsKey true s

/-- ALT.M (42_locks_modifiers_fkeys.md R199): always consumed, no state change. -/
def execAltM (s : State) : Host.Outcome State Fault Refusal := completeUnit [] s

/-- ALT.B (42_locks_modifiers_fkeys.md R199): always consumed, no state change. -/
def execAltB (s : State) : Host.Outcome State Fault Refusal := completeUnit [] s

end Sys2Proof.Machine
end

