-- ==== Sys2Proof/Machine/Special.lean ====
section
/-! DEFINITION. The special units (40_special_prefix_pause.md R120 to R125) and the Pause unit (R131). -/

namespace Sys2Proof.Machine

/-- A diagnostic-only special unit: `Diag(SPECIAL(b)); phase <- IDLE` (40_special_prefix_pause.md section 1). -/
def specialUnit (b : Byte) (s : State) : Host.Outcome State Fault Refusal :=
  .next (s.perform [.diag (.special b), .enter .idle])

/-- SP.FA, keyboard acknowledge (40_special_prefix_pause.md R120). -/
def execSpFA (s : State) : Host.Outcome State Fault Refusal := specialUnit 0xFA s

/-- SP.AA, self-test passed (40_special_prefix_pause.md R121): the byte is sent first, then the event is written. -/
def execSpAA (s : State) : Host.Outcome State Fault Refusal :=
  .next (s.perform [.tx s.par.batAckByte, .diag (.special 0xAA), .enter .idle])

/-- SP.EE, echo reply (40_special_prefix_pause.md R122). -/
def execSpEE (s : State) : Host.Outcome State Fault Refusal := specialUnit 0xEE s

/-- SP.FE, resend request (40_special_prefix_pause.md R123). -/
def execSpFE (s : State) : Host.Outcome State Fault Refusal := specialUnit 0xFE s

/-- SP.00, key-detection error or overrun (40_special_prefix_pause.md R124). -/
def execSp00 (s : State) : Host.Outcome State Fault Refusal := specialUnit 0x00 s

/-- SP.FF, key-detection error or overrun (40_special_prefix_pause.md R125). -/
def execSpFF (s : State) : Host.Outcome State Fault Refusal := specialUnit 0xFF s

/-- PAUSE, at its eighth byte: `Diag(PAUSE); phase <- IDLE` (40_special_prefix_pause.md R131). -/
def execPause (s : State) : Host.Outcome State Fault Refusal := .next (s.perform [.diag .pause, .enter .idle])

/-- A wrong byte in phase P`k`: the byte is discarded and the unit abandoned (60_exceptions.md R283). -/
def abortPause (k : Nat) (b : Byte) (s : State) : Host.Outcome State Fault Refusal :=
  .next (s.perform (raise (.pauseMismatch k b) ++ [.enter .idle]))

end Sys2Proof.Machine
end

