-- ==== Sys2Proof/Machine/Dispatch.lean ====
section
/-! DEFINITION. The meaning of every unit: one arm per constructor of Instr. -/

namespace Sys2Proof.Machine

def exec (i : Instr) (s : State) : Host.Outcome State Fault Refusal :=
  match i with
  | .spFA => Sys2Proof.Machine.execSpFA s
  | .spAA => Sys2Proof.Machine.execSpAA s
  | .spEE => Sys2Proof.Machine.execSpEE s
  | .spFE => Sys2Proof.Machine.execSpFE s
  | .sp00 => Sys2Proof.Machine.execSp00 s
  | .spFF => Sys2Proof.Machine.execSpFF s
  | .pause => Sys2Proof.Machine.execPause s
  | .numlockM => Sys2Proof.Machine.execNumlockM s
  | .numlockB => Sys2Proof.Machine.execNumlockB s
  | .scrlockM => Sys2Proof.Machine.execScrlockM s
  | .scrlockB => Sys2Proof.Machine.execScrlockB s
  | .lshiftM => Sys2Proof.Machine.execLshiftM s
  | .lshiftB => Sys2Proof.Machine.execLshiftB s
  | .rshiftM => Sys2Proof.Machine.execRshiftM s
  | .rshiftB => Sys2Proof.Machine.execRshiftB s
  | .ctrlM => Sys2Proof.Machine.execCtrlM s
  | .ctrlB => Sys2Proof.Machine.execCtrlB s
  | .capsM => Sys2Proof.Machine.execCapsM s
  | .capsB => Sys2Proof.Machine.execCapsB s
  | .altM => Sys2Proof.Machine.execAltM s
  | .altB => Sys2Proof.Machine.execAltB s
  | .f1M => Sys2Proof.Machine.execF1M s
  | .f1B => Sys2Proof.Machine.execF1B s
  | .f2M => Sys2Proof.Machine.execF2M s
  | .f2B => Sys2Proof.Machine.execF2B s
  | .f3M => Sys2Proof.Machine.execF3M s
  | .f3B => Sys2Proof.Machine.execF3B s
  | .f4M => Sys2Proof.Machine.execF4M s
  | .f4B => Sys2Proof.Machine.execF4B s
  | .f5M => Sys2Proof.Machine.execF5M s
  | .f5B => Sys2Proof.Machine.execF5B s
  | .f6M => Sys2Proof.Machine.execF6M s
  | .f6B => Sys2Proof.Machine.execF6B s
  | .f7M => Sys2Proof.Machine.execF7M s
  | .f7B => Sys2Proof.Machine.execF7B s
  | .f8M => Sys2Proof.Machine.execF8M s
  | .f8B => Sys2Proof.Machine.execF8B s
  | .f9M => Sys2Proof.Machine.execF9M s
  | .f9B => Sys2Proof.Machine.execF9B s
  | .f10M => Sys2Proof.Machine.execF10M s
  | .f10B => Sys2Proof.Machine.execF10B s
  | .f11M => Sys2Proof.Machine.execF11M s
  | .f11B => Sys2Proof.Machine.execF11B s
  | .f12M => Sys2Proof.Machine.execF12M s
  | .f12B => Sys2Proof.Machine.execF12B s
  | .kp0M => Sys2Proof.Machine.execKp0M s
  | .kp0B => Sys2Proof.Machine.execKp0B s
  | .kp1M => Sys2Proof.Machine.execKp1M s
  | .kp1B => Sys2Proof.Machine.execKp1B s
  | .kp2M => Sys2Proof.Machine.execKp2M s
  | .kp2B => Sys2Proof.Machine.execKp2B s
  | .kp3M => Sys2Proof.Machine.execKp3M s
  | .kp3B => Sys2Proof.Machine.execKp3B s
  | .kp4M => Sys2Proof.Machine.execKp4M s
  | .kp4B => Sys2Proof.Machine.execKp4B s
  | .kp5M => Sys2Proof.Machine.execKp5M s
  | .kp5B => Sys2Proof.Machine.execKp5B s
  | .kp6M => Sys2Proof.Machine.execKp6M s
  | .kp6B => Sys2Proof.Machine.execKp6B s
  | .kp7M => Sys2Proof.Machine.execKp7M s
  | .kp7B => Sys2Proof.Machine.execKp7B s
  | .kp8M => Sys2Proof.Machine.execKp8M s
  | .kp8B => Sys2Proof.Machine.execKp8B s
  | .kp9M => Sys2Proof.Machine.execKp9M s
  | .kp9B => Sys2Proof.Machine.execKp9B s
  | .kpdotM => Sys2Proof.Machine.execKpdotM s
  | .kpdotB => Sys2Proof.Machine.execKpdotB s
  | .kpstarM => Sys2Proof.Machine.execKpstarM s
  | .kpstarB => Sys2Proof.Machine.execKpstarB s
  | .kpminusM => Sys2Proof.Machine.execKpminusM s
  | .kpminusB => Sys2Proof.Machine.execKpminusB s
  | .kpplusM => Sys2Proof.Machine.execKpplusM s
  | .kpplusB => Sys2Proof.Machine.execKpplusB s
  | .upM => Sys2Proof.Machine.execUpM s
  | .upB => Sys2Proof.Machine.execUpB s
  | .downM => Sys2Proof.Machine.execDownM s
  | .downB => Sys2Proof.Machine.execDownB s
  | .rightM => Sys2Proof.Machine.execRightM s
  | .rightB => Sys2Proof.Machine.execRightB s
  | .leftM => Sys2Proof.Machine.execLeftM s
  | .leftB => Sys2Proof.Machine.execLeftB s
  | .insM => Sys2Proof.Machine.execInsM s
  | .insB => Sys2Proof.Machine.execInsB s
  | .delM => Sys2Proof.Machine.execDelM s
  | .delB => Sys2Proof.Machine.execDelB s
  | .homeM => Sys2Proof.Machine.execHomeM s
  | .homeB => Sys2Proof.Machine.execHomeB s
  | .endM => Sys2Proof.Machine.execEndM s
  | .endB => Sys2Proof.Machine.execEndB s
  | .pgupM => Sys2Proof.Machine.execPgupM s
  | .pgupB => Sys2Proof.Machine.execPgupB s
  | .pgdnM => Sys2Proof.Machine.execPgdnM s
  | .pgdnB => Sys2Proof.Machine.execPgdnB s
  | .kpenterM => Sys2Proof.Machine.execKpenterM s
  | .kpenterB => Sys2Proof.Machine.execKpenterB s
  | .kpslashM => Sys2Proof.Machine.execKpslashM s
  | .kpslashB => Sys2Proof.Machine.execKpslashB s
  | .raltM => Sys2Proof.Machine.execRaltM s
  | .raltB => Sys2Proof.Machine.execRaltB s
  | .rctrlM => Sys2Proof.Machine.execRctrlM s
  | .rctrlB => Sys2Proof.Machine.execRctrlB s
  | .lwinM => Sys2Proof.Machine.execLwinM s
  | .lwinB => Sys2Proof.Machine.execLwinB s
  | .rwinM => Sys2Proof.Machine.execRwinM s
  | .rwinB => Sys2Proof.Machine.execRwinB s
  | .menuM => Sys2Proof.Machine.execMenuM s
  | .menuB => Sys2Proof.Machine.execMenuB s
  | .prtsc1M => Sys2Proof.Machine.execPrtsc1M s
  | .prtsc1B => Sys2Proof.Machine.execPrtsc1B s
  | .prtsc2M => Sys2Proof.Machine.execPrtsc2M s
  | .prtsc2B => Sys2Proof.Machine.execPrtsc2B s
  | .keyM code => Sys2Proof.Machine.execKeyM code s
  | .keyB code => Sys2Proof.Machine.execKeyB code s
  | .xkeyM code => Sys2Proof.Machine.execXkeyM code s
  | .xkeyB code => Sys2Proof.Machine.execXkeyB code s

end Sys2Proof.Machine
end

