-- ==== Sys2Proof/Machine/Block.lean ====
section
/-! DEFINITION. The block's own steps: Boot, the consumption of one raw byte, Recover, waiting (00_scope.md R11), and
the placing of a unit where the next step fetches it. -/

namespace Sys2Proof.Machine

/-- The primitives of the Boot step (70_reset_and_hazards.md R311). -/
def bannerActions : List Action :=
  [.tx bannerFirst, .tx asciiUpperB, .tx Config.fwVersion, .enter .idle]

/-- Phase BOOT with nothing owed: the banner is sent, unless the external integrity check has failed, when the block
never leaves reset (70_reset_and_hazards.md R311, R314). -/
def bootStep (s : State) : State := if s.startCheckPassed then s.perform bannerActions else s

/-- The Recover step (60_exceptions.md R286): RawKeySource is reinitialized and the event written. -/
def recoverStep (s : State) : State := s.reinitialize.perform (raise .transportError)

/-- "try read" answered none yet: the Recover check, else the wait goes on (20_memory.md R51; 60_exceptions.md R286,
R289). -/
def waitStep (s : State) : State := if s.rx.err then recoverStep s else s

/-- The step that reads the byte `b`, already removed from RawKeySource, in phase `p` (40_special_prefix_pause.md
R133). -/
def byteStep (p : Phase) (b : Byte) (s : State) : Host.Outcome State Fault Refusal :=
  match classify s.par.keymap p b with
  | .unit i => exec i s
  | .awaiting p' => .next (s.perform [.enter p'])
  | .aborted k => abortPause k b s
  | .notRead => .next s

/-- One poll of the wait loop: a waiting byte is taken before the error status is looked at (60_exceptions.md R286,
R290). -/
def pollStep (p : Phase) (s : State) : Host.Outcome State Fault Refusal :=
  match s.rx.tryRead with
  | some b => byteStep p b s.consume
  | none => .next (waitStep s)

/-- The block in phase `p` with nothing owed: no byte is consumed in phase BOOT (20_memory.md R51). -/
def freeStep (p : Phase) (s : State) : Host.Outcome State Fault Refusal :=
  match p with
  | .boot => .next (bootStep s)
  | p => pollStep p s

/-- A step while the current step is unfinished: the byte in flight is acknowledged, or the block is stuck and changes
nothing (60_exceptions.md R288). Any other primitive at the head, which no run leaves there, is performed. -/
def oweStep (a : Action) (rest : List Action) (s : State) : State :=
  match a with
  | .tx b => if s.hostAcks then s.acknowledge b rest else s
  | a => runActions (a :: rest) s

/-- One step of the block. A phase register outside the 12 legal values is a fault (10_state.md R25). -/
def blockStep (s : State) : Host.Outcome State Fault Refusal :=
  match phaseOfBits s.phase with
  | none => .fault .illegalPhase
  | some p =>
    match s.todo with
    | [] => freeStep p s
    | a :: rest => .next (oweStep a rest s)

/-- Reading `bytes` from phase `p`: the phase in which a unit's last byte is awaited, and that byte; the phase reached
when the bytes end before. -/
def lastByte (km : KeyMap) (p : Phase) (bytes : List Byte) : Phase × List Byte :=
  match bytes with
  | [] => (p, [])
  | b :: rest =>
    match classify km p b with
    | .awaiting p' => lastByte km p' rest
    | .unit _ => (p, [b])
    | .aborted _ => (p, [b])
    | .notRead => (p, [b])

/-- The script with a step of no events put first, where the script has any. -/
def quietFirst (env : List (List EnvEvent)) : List (List EnvEvent) :=
  match env with
  | [] => []
  | es :: rest => [] :: es :: rest

/-- The state in which all bytes of a unit but its last have been read from IDLE, and the last one waits: the next
step completes the unit (notes/assumptions/19.md). -/
def placeBytes (bytes : List Byte) (s : State) : State :=
  { s with
    phase := phaseBits (lastByte s.par.keymap .idle bytes).1
    todo := []
    rx := { s.rx with buffer := (lastByte s.par.keymap .idle bytes).2 ++ s.rx.buffer, stalled := false }
    env := quietFirst s.env }

end Sys2Proof.Machine
end

