-- ==== Sys2Proof/Machine/Step.lean ====
section
/-! DEFINITION. One step of the machine: the environment's events of this step, then the block's action. -/

namespace Sys2Proof.Machine

/-- One step (00_scope.md R11): the environment acts (20_memory.md R68; notes/assumptions/1.md), then the block. -/
def step (s : State) : Host.Outcome State Fault Refusal := blockStep s.envTick

/-- `s` with the unit of an opcode-table word placed so that the very next step completes it: its earlier bytes have
been read from IDLE, its last byte waits in RawKeySource. -/
def State.withFetchWord (s : State) (nbits w : Nat) : State := placeBytes (tableBytes nbits w) s

end Sys2Proof.Machine
end

