-- ==== Sys2Proof/Machine/Reference.lean ====
section
/-! DEFINITION. The spec's own step function, literally and as a pure function of its arguments: Dispatch with its
stages in order (30_encoding.md R96) and Step((phase, m), opt, b) (00_scope.md R11; 40_special_prefix_pause.md R133).
`step` does not call it: statements compare the machine, whose units have a meaning each, with it. -/

namespace Sys2Proof.Machine

/-- What a key event does: the modifiers after it, the bytes sent, the diagnostic events (00_scope.md R11). -/
structure Reply where
  m : Modifiers
  out : List Byte
  diag : List DiagEvent
  deriving DecidableEq, Repr

/-- The bytes of TxEsc (20_memory.md R55). -/
def escBytes (cs : List Byte) : List Byte := asciiEsc :: cs

/-- "On press only": the value for a make, nothing for a break. -/
def pressOnly {α : Type} (release : Bool) (l : List α) : List α := if release then [] else l

/-- ExtendedStage(ev): always consumes (41_extended.md R150 to R170). -/
def extendedStage (km : KeyMap) (opt : Options) (m : Modifiers) (ev : KeyEvent) : Reply :=
  let c := ev.code
  let sends (bytes : List Byte) : Reply := { m := m, out := pressOnly ev.release bytes, diag := [] }
  let logs (e : DiagEvent) : Reply := { m := m, out := [], diag := [e] }
  if c = km.xcUp then sends (escBytes [asciiUpperA])
  else if c = km.xcDown then sends (escBytes [asciiUpperB])
  else if c = km.xcRight then sends (escBytes [asciiUpperC])
  else if c = km.xcLeft then sends (escBytes [asciiUpperD])
  else if c = km.xcIns ∨ c = km.xcDel ∨ c = km.xcHome ∨ c = km.xcEnd ∨ c = km.xcPgup ∨ c = km.xcPgdn then
    logs (.xedit c ev.release)
  else if c = km.xcKpenter then sends (if opt.ak then escBytes [asciiQuery, asciiUpperM] else [asciiCR])
  else if c = km.xcKpslash then sends (if opt.ak then escBytes [asciiUpperP] else [asciiSlash])
  else if c = km.xcRalt ∨ c = km.xcRctrl then logs (.xmod c ev.release)
  else if c = km.xcLwin ∨ c = km.xcRwin ∨ c = km.xcMenu then
    { m := m, out := [], diag := pressOnly ev.release [.winmenu c] }
  else if c = km.xcPrtsc1 ∨ c = km.xcPrtsc2 then logs (.prtsc c ev.release)
  else logs (.xunknown c ev.release)

/-- Stage 1, `none` for "not handled" (42_locks_modifiers_fkeys.md R190, R191). -/
def lockStage (m : Modifiers) (ev : KeyEvent) : Option Reply :=
  if ev.code = 0x77 ∨ ev.code = 0x7E then
    some { m := m, out := [], diag := pressOnly ev.release [.lockkey ev.code] }
  else none

/-- Stage 2 on the code after the swap (42_locks_modifiers_fkeys.md R192 to R194). -/
def modifierStage (opt : Options) (m : Modifiers) (ev : KeyEvent) : Option Reply :=
  let c := swapCode opt.sw ev.code
  let writes (m' : Modifiers) : Option Reply := some { m := m', out := [], diag := [] }
  if c = 0x12 then writes (m.set .LS (!ev.release))
  else if c = 0x59 then writes (m.set .RS (!ev.release))
  else if c = 0x14 then writes (m.set .CT (!ev.release))
  else if c = 0x58 then writes (if ev.release then m else m.set .CL (!m.get .CL))
  else if c = 0x11 then writes m
  else none

/-- FKEY_SET (30_encoding.md R92). -/
def fkeySet (km : KeyMap) : List Byte :=
  [km.f1, km.f2, km.f3, km.f4, km.f5, km.f6, km.f7, km.f8, km.f9, km.f10, km.f11, km.f12]

/-- Stage 3 (42_locks_modifiers_fkeys.md R200). -/
def fkeyStage (km : KeyMap) (m : Modifiers) (ev : KeyEvent) : Option Reply :=
  if ev.code ∈ fkeySet km then some { m := m, out := [], diag := pressOnly ev.release [.fkey ev.code] } else none

/-- KP_DIGIT: 0 to 9 for the digit keys, 10 for '.', in "table order" (43_keypad.md R230). -/
def kpDigit (km : KeyMap) (c : Byte) : Option Nat :=
  [km.kp0, km.kp1, km.kp2, km.kp3, km.kp4, km.kp5, km.kp6, km.kp7, km.kp8, km.kp9, km.kpDot].findIdx? (fun k => c == k)

/-- Stage 4, entered only when opt.AK = 1 (43_keypad.md R230, R231). -/
def keypadStage (km : KeyMap) (opt : Options) (m : Modifiers) (ev : KeyEvent) : Option Reply :=
  let sends (bytes : List Byte) : Option Reply := some { m := m, out := pressOnly ev.release bytes, diag := [] }
  if opt.ak then
    match kpDigit km ev.code with
    | some d => sends (escBytes [asciiQuery, 0x70 + BitVec.ofNat 8 d])
    | none =>
      if ev.code = km.kpStar then sends (escBytes [asciiUpperQ])
      else if ev.code = km.kpMinus then sends (escBytes [asciiUpperR])
      else if ev.code = km.kpPlus ∨ ev.code = km.kpNumLk then sends []
      else none
  else none

/-- Stage 6 (44_ascii.md R261 to R263). -/
def asciiStage (rom : Memory) (m : Modifiers) (ev : KeyEvent) : Option Reply :=
  let e := lookupEntry rom m ev.code
  if e = 0x00 then none else some { m := m, out := pressOnly ev.release [asciiByte m e], diag := [] }

/-- Stage 7, UnknownKey (44_ascii.md R265). -/
def unknownStage (m : Modifiers) (ev : KeyEvent) : Reply :=
  { m := m, out := [], diag := [.unknown ev.code ev.release] }

/-- "First match wins": the first stage that handles the event, else the last resort. -/
def firstHandled (stages : List (Option Reply)) (last : Reply) : Reply :=
  match stages with
  | [] => last
  | some r :: _ => r
  | none :: rest => firstHandled rest last

/-- Dispatch(ev) (30_encoding.md R96). Stage 5 is the absence of stage 4 when opt.AK = 0. -/
def dispatch (km : KeyMap) (rom : Memory) (opt : Options) (m : Modifiers) (ev : KeyEvent) : Reply :=
  if ev.extended then extendedStage km opt m ev
  else firstHandled
    [lockStage m ev, modifierStage opt m ev, fkeyStage km m ev, keypadStage km opt m ev, asciiStage rom m ev]
    (unknownStage m ev)

/-- The result of Step: the next phase and what the step does (00_scope.md R11). -/
structure StepReply where
  phase : Phase
  reply : Reply
  deriving DecidableEq, Repr

/-- A row of the table of R133 for phase P`k`. -/
def pauseRow (m : Modifiers) (k : Nat) (b : Byte) (matched : Phase) (events : List DiagEvent) : StepReply :=
  if b = pauseSeq k then { phase := matched, reply := { m := m, out := [], diag := events } }
  else { phase := .idle, reply := { m := m, out := [], diag := [.pauseAbort k b] } }

/-- Step((phase, m), opt, b) (40_special_prefix_pause.md R133, row by row). In phase BOOT, where no byte is consumed,
nothing happens. -/
def specStep (par : Params) (rom : Memory) (opt : Options) (p : Phase) (m : Modifiers) (b : Byte) : StepReply :=
  let moves (p' : Phase) : StepReply := { phase := p', reply := { m := m, out := [], diag := [] } }
  let key (release extended : Bool) : StepReply :=
    { phase := .idle, reply := dispatch par.keymap rom opt m { code := b, release := release, extended := extended } }
  match p with
  | .boot => moves .boot
  | .idle =>
    if b ∈ [0xFA, 0xEE, 0xFE, 0x00, 0xFF] then
      { phase := .idle, reply := { m := m, out := [], diag := [.special b] } }
    else if b = 0xAA then { phase := .idle, reply := { m := m, out := [par.batAckByte], diag := [.special 0xAA] } }
    else if b = 0xF0 then moves .rel
    else if b = 0xE0 then moves .ext
    else if b = 0xE1 then moves .p1
    else key false false
  | .rel => key true false
  | .ext => if b = 0xF0 then moves .extRel else key false true
  | .extRel => key true true
  | .p1 => pauseRow m 1 b .p2 []
  | .p2 => pauseRow m 2 b .p3 []
  | .p3 => pauseRow m 3 b .p4 []
  | .p4 => pauseRow m 4 b .p5 []
  | .p5 => pauseRow m 5 b .p6 []
  | .p6 => pauseRow m 6 b .p7 []
  | .p7 => pauseRow m 7 b .idle [.pause]

end Sys2Proof.Machine
end

