-- ==== Sys2Proof/Safety.lean ====
section
/-! DEFINITION. The terms in which statements speak of the machine: what a step comes to once the host has
acknowledged its bytes, when a unit completes, the invariant of the block. -/

namespace Sys2Proof

/-- The extended units, formats XM and XB. -/
def Instr.isExtended : Instr → Bool
  | .upM | .upB | .downM | .downB | .rightM | .rightB | .leftM | .leftB | .insM | .insB | .delM | .delB
  | .homeM | .homeB | .endM | .endB | .pgupM | .pgupB | .pgdnM | .pgdnB | .kpenterM | .kpenterB
  | .kpslashM | .kpslashB | .raltM | .raltB | .rctrlM | .rctrlB | .lwinM | .lwinB | .rwinM | .rwinB
  | .menuM | .menuB | .prtsc1M | .prtsc1B | .prtsc2M | .prtsc2B | .xkeyM _ | .xkeyB _ => true
  | _ => false

/-- The break units, formats B and XB. -/
def Instr.isBreak : Instr → Bool
  | .numlockB | .scrlockB | .lshiftB | .rshiftB | .ctrlB | .capsB | .altB | .f1B | .f2B | .f3B | .f4B | .f5B | .f6B
  | .f7B | .f8B | .f9B | .f10B | .f11B | .f12B | .kp0B | .kp1B | .kp2B | .kp3B | .kp4B | .kp5B | .kp6B | .kp7B
  | .kp8B | .kp9B | .kpdotB | .kpstarB | .kpminusB | .kpplusB | .upB | .downB | .rightB | .leftB | .insB | .delB
  | .homeB | .endB | .pgupB | .pgdnB | .kpenterB | .kpslashB | .raltB | .rctrlB | .lwinB | .rwinB | .menuB
  | .prtsc1B | .prtsc2B | .keyB _ | .xkeyB _ => true
  | _ => false

end Sys2Proof

namespace Sys2Proof.Machine

/-- The effect of one primitive when its `Tx`, if it is one, has been acknowledged. -/
def Action.applied (a : Action) (s : State) : State :=
  match a with
  | .tx b => { s with out := s.out ++ [b] }
  | .diag e => { s with diag := s.diag ++ [e] }
  | .enter p => s.setPhase p

/-- A list of primitives, in order, every `Tx` acknowledged. -/
def appliedAll (acts : List Action) (s : State) : State :=
  match acts with
  | [] => s
  | a :: rest => appliedAll rest (a.applied s)

/-- The state in which the current step has finished: all it still owes has been sent and acknowledged (00_scope.md
R11; 60_exceptions.md R288: "the block continues exactly where it was"). -/
def State.settle (s : State) : State := appliedAll s.todo { s with todo := [] }

/-- The unit `i`, run on `s`, answers a next state; nothing has been acknowledged yet; and once the host has
acknowledged its bytes the state is `s` with phase IDLE, modifiers `m'`, `bytes` appended to OUT and `events` to DIAG,
every other field as it was. This is (state', out, diag) of 00_scope.md R11, with the frame. -/
def CompletesWith (i : Instr) (s : State) (m' : Modifiers) (bytes : List Byte) (events : List DiagEvent) : Prop :=
  ∃ t, exec i s = .next t ∧ t.out = s.out ∧
    t.settle = { s with phase := phaseBits .idle, m := m', out := s.out ++ bytes, diag := s.diag ++ events }

/-- `k` steps, stopping at the first fault or refusal: Host.Core.run of this machine (Laws.Step.run_eq_runSteps). -/
def runSteps (k : Nat) (s : State) : Host.Outcome State Fault Refusal :=
  match k with
  | 0 => .next s
  | k + 1 =>
    match step s with
    | .next t => runSteps k t
    | .fault r => .fault r
    | .refused r => .refused r

/-- `s` waits in phase `p` for a raw byte: nothing is owed, and the script holds no event (R51). -/
def WaitsIn (s : State) (p : Phase) : Prop := s.phase = phaseBits p ∧ s.todo = [] ∧ s.env = []

/-- `s` waits in phase `p`, RawKeySource answers, and `bytes` are what it holds. -/
def Holds (s : State) (p : Phase) (bytes : List Byte) : Prop :=
  WaitsIn s p ∧ s.rx.stalled = false ∧ s.rx.buffer = bytes

/-- `s` with `n` raw bytes taken from RawKeySource, `left` remaining. -/
def State.taken (s : State) (n : Nat) (left : List Byte) : State :=
  { s with rx := { s.rx with buffer := left }, inPos := s.inPos + n }

/-- The Pause phases with their positions (10_state.md R25). -/
def pausePhases : List (Nat × Phase) :=
  [(1, .p1), (2, .p2), (3, .p3), (4, .p4), (5, .p5), (6, .p6), (7, .p7)]

/-- The units that may write `m` (10_state.md R21). -/
def modifierUnits : List Instr := [.lshiftM, .lshiftB, .rshiftM, .rshiftB, .ctrlM, .ctrlB, .capsM, .capsB]

/-- The escape sequences this hardware can emit (20_memory.md R55). -/
def escapeSequences : List (List Byte) :=
  [[0x1B, 0x41], [0x1B, 0x42], [0x1B, 0x43], [0x1B, 0x44], [0x1B, 0x3F, 0x4D], [0x1B, 0x50],
   [0x1B, 0x3F, 0x70], [0x1B, 0x3F, 0x71], [0x1B, 0x3F, 0x72], [0x1B, 0x3F, 0x73], [0x1B, 0x3F, 0x74],
   [0x1B, 0x3F, 0x75], [0x1B, 0x3F, 0x76], [0x1B, 0x3F, 0x77], [0x1B, 0x3F, 0x78], [0x1B, 0x3F, 0x79],
   [0x1B, 0x3F, 0x7A], [0x1B, 0x51], [0x1B, 0x52]]

/-- The three banner bytes (70_reset_and_hazards.md R311). -/
def banner : List Byte := [0xCB, 0x42, Config.fwVersion]

/-- A step's unfinished rest as a unit leaves it: nothing, or a `Tx` in flight followed by sends, events and writes of
phase IDLE, of at most three bytes (00_scope.md R11). -/
def unitRest (acts : List Action) : Bool :=
  match acts with
  | [] => true
  | .tx b :: rest =>
    decide ((txBytes (.tx b :: rest)).length ≤ 3)
      && rest.all (fun a => match a with | .enter p => p == .idle | _ => true)
  | _ => false

/-- The start of a run: nothing sent and the Boot step not yet made, or the banner part sent and the rest owed
(70_reset_and_hazards.md R311). -/
def Starting (s : State) : Prop :=
  s.phase = phaseBits .boot ∧
    ((s.out = [] ∧ s.todo = []) ∨
     ∃ n, n < 3 ∧ s.out = banner.take n ∧ s.todo = bannerActions.drop n)

/-- The rest of a run: a legal phase other than BOOT, OUT begins with the banner, and an unfinished step is a unit's,
in phase IDLE. -/
def Started (s : State) : Prop :=
  (∃ p, p ≠ .boot ∧ s.phase = phaseBits p) ∧ banner <+: s.out ∧ unitRest s.todo = true ∧
    (s.todo ≠ [] → s.phase = phaseBits .idle)

/-- The invariant of the machine: the ROM's list is in canonical form, and the run is at its start or past it. -/
def BlockInvariant (s : State) : Prop := Memory.wf s.rom = true ∧ (Starting s ∨ Started s)

end Sys2Proof.Machine
end

