-- ==== Sys2Proof/Certificates/Slice0/Obligations.lean ====
section
/-! DEFINITION. The statements for the provers. Each says what its docstring and OBLIGATIONS.json say; `s.todo = []`
is the spec's own condition that no output byte of an earlier step is unacknowledged (20_memory.md R51). -/

open Sys2Proof Sys2Proof.Machine

/-! ## Reset and Boot -/

/-- 10_state.md R37, R27; 70_reset_and_hazards.md R310: phase BOOT, OUT and DIAG empty, nothing consumed, nothing owed.
That the four modifier bits are 0 is the spec's own decision D13 (notes/assumptions/6.md). -/
def Obligations.ResetStateIsBootWithEmptyStreams : Prop :=
  State.reset.phase = phaseBits .boot ∧ State.reset.todo = [] ∧ State.reset.out = [] ∧ State.reset.diag = [] ∧
    State.reset.inPos = 0 ∧ ∀ r, State.reset.m.get r = false

/-- 70_reset_and_hazards.md R311: with a host that acknowledges, Boot and its three sends leave phase IDLE with the
banner sent and nothing else changed; with a host that does not, the block stays in BOOT for ever, owing it. -/
def Obligations.BootStepSendsTheBanner : Prop :=
  ∀ s, WaitsIn s .boot → s.startCheckPassed = true →
    (s.hostAcks = true → runSteps 4 s =
      .next { s with phase := phaseBits .idle, out := s.out ++ [0x80 ||| 0x4B, 0x42, Config.fwVersion] }) ∧
    (s.hostAcks = false → ∀ k, runSteps (k + 1) s = .next { s with todo := bannerActions })

/-- 70_reset_and_hazards.md R314, for every script of the environment: if the external check fails the block never
leaves reset and sends nothing, not even the banner, reads no byte and logs nothing, whatever is delivered or raised; if
it passes the Boot step follows. That the check's outcome is an input bit and that a block held in reset is a sequence of
steps that change nothing of it is the model's reading (notes/assumptions/20.md, 11.md). -/
def Obligations.FailedStartCheckHoldsTheBlockInReset : Prop :=
  ∀ s, s.phase = phaseBits .boot → s.todo = [] →
    (s.startCheckPassed = false → ∀ k, ∃ t, runSteps k s = .next t ∧ t.phase = phaseBits .boot ∧ t.todo = [] ∧
      t.out = s.out ∧ t.diag = s.diag ∧ t.inPos = s.inPos ∧ t.m = s.m) ∧
    (s.startCheckPassed = true → step s = .next { s.envTick with todo := bannerActions })

/-- 70_reset_and_hazards.md R311 and decision D22: in phase BOOT no raw byte is consumed, whatever is owed and whatever
the environment does; delivered bytes only queue. -/
def Obligations.NoByteIsConsumedInBoot : Prop :=
  ∀ s, s.phase = phaseBits .boot → ∃ t, step s = .next t ∧ t.inPos = s.inPos ∧ s.rx.buffer <+: t.rx.buffer

/-! ## Special units, prefixes, Pause -/

/-- 40_special_prefix_pause.md R120, R122 to R125: the five diagnostic-only special units, recognised in phase IDLE.
The last clause, the break form of code 0x00 sends nothing whatever the ROM holds, is the spec's own inference: R124
marks it "derived", from 44_ascii.md R262. -/
def Obligations.SpecialUnitsOnlyLog : Prop :=
  (∀ p ∈ [(Instr.spFA, (0xFA : Byte)), (.spEE, 0xEE), (.spFE, 0xFE), (.sp00, 0x00), (.spFF, 0xFF)],
    ∀ s : State, (s.todo = [] → CompletesWith p.1 s s.m [] [.special p.2]) ∧
      encode s.par.keymap p.1 = [p.2] ∧ classify s.par.keymap .idle p.2 = .unit p.1) ∧
  (∀ s : State, s.todo = [] → ∃ t, exec (.keyB 0x00) s = .next t ∧ t.todo = [] ∧ t.out = s.out)

/-- 40_special_prefix_pause.md R121: SP.AA sends exactly BAT_ACK_BYTE, whatever that parameter is, and leaves `m`. That
it is 0xAA after reset is the spec's decision D8 (notes/assumptions/9.md). -/
def Obligations.SelfTestByteIsAcknowledged : Prop :=
  ∀ s : State, (s.todo = [] → CompletesWith .spAA s s.m [s.par.batAckByte] [.special 0xAA]) ∧
    encode s.par.keymap .spAA = [0xAA] ∧ classify s.par.keymap .idle 0xAA = .unit .spAA ∧
    State.reset.par.batAckByte = 0xAA

/-- 40_special_prefix_pause.md R126, R128, with the row of R129 for 0xF0 and R131's first byte: a prefix byte moves
the phase, consumes one byte, and changes nothing else. -/
def Obligations.PrefixBytesMoveOnlyThePhase : Prop :=
  ∀ s rest, ∀ r ∈ [(Phase.idle, (0xF0 : Byte), Phase.rel), (.idle, 0xE0, .ext), (.ext, 0xF0, .extRel),
      (.idle, 0xE1, .p1)],
    Holds s r.1 (r.2.1 :: rest) → step s = .next { s.taken 1 rest with phase := phaseBits r.2.2 }

/-- 40_special_prefix_pause.md R131: the eight bytes of the Pause unit, step by step from IDLE: through P1 to P7 back
to IDLE, no byte sent, `m` and the options untouched, one PAUSE event at the end; and the meaning of the unit. -/
def Obligations.PauseUnitRunsThroughItsPhases : Prop :=
  (∀ s rest, Holds s .idle ([0xE1, 0x14, 0x77, 0xE1, 0xF0, 0x14, 0xF0, 0x77] ++ rest) →
    (∀ r ∈ pausePhases, runSteps r.1 s =
      .next { s.taken r.1 (s.rx.buffer.drop r.1) with phase := phaseBits r.2 }) ∧
    runSteps 8 s = .next { s.taken 8 rest with diag := s.diag ++ [.pause] }) ∧
  ∀ s : State, (s.todo = [] → CompletesWith .pause s s.m [] [.pause]) ∧
    encode s.par.keymap .pause = [0xE1, 0x14, 0x77, 0xE1, 0xF0, 0x14, 0xF0, 0x77]

/-- 60_exceptions.md R283: a wrong byte in phase P`k` is consumed and discarded, the unit is abandoned, decoding
resumes in IDLE with the byte after it. -/
def Obligations.PauseMismatchAbandonsTheUnit : Prop :=
  ∀ s b rest, ∀ r ∈ pausePhases, Holds s r.2 (b :: rest) → b ≠ pauseSeq r.1 →
    step s = .next { s.taken 1 rest with phase := phaseBits .idle, diag := s.diag ++ [.pauseAbort r.1 b] }

/-! ## Extended keys -/

/-- 41_extended.md R151 to R154: an arrow's make sends ESC and its letter for every `m` and option, its break nothing. -/
def Obligations.ArrowKeysSendTheirLetters : Prop :=
  ∀ s : State, ∀ r ∈ [(Instr.upM, Instr.upB, s.par.keymap.xcUp, (0x41 : Byte)),
      (.downM, .downB, s.par.keymap.xcDown, 0x42), (.rightM, .rightB, s.par.keymap.xcRight, 0x43),
      (.leftM, .leftB, s.par.keymap.xcLeft, 0x44)],
    (s.todo = [] → CompletesWith r.1 s s.m [0x1B, r.2.2.2] [] ∧ CompletesWith r.2.1 s s.m [] []) ∧
    encode s.par.keymap r.1 = [0xE0, r.2.2.1] ∧ encode s.par.keymap r.2.1 = [0xE0, 0xF0, r.2.2.1]

/-- 41_extended.md R155 to R160, R168, R169: an editing key writes XEDIT(code, release) and a Print-Screen half
PRTSC(code, release), on make and on break, and nothing else: no byte, no modifier bit, whatever opt.AK is. -/
def Obligations.EditingAndPrintScreenKeysOnlyLog : Prop :=
  ∀ s : State,
    (∀ r ∈ [(Instr.insM, Instr.insB, s.par.keymap.xcIns), (.delM, .delB, s.par.keymap.xcDel),
      (.homeM, .homeB, s.par.keymap.xcHome), (.endM, .endB, s.par.keymap.xcEnd),
      (.pgupM, .pgupB, s.par.keymap.xcPgup), (.pgdnM, .pgdnB, s.par.keymap.xcPgdn)],
      (s.todo = [] →
        CompletesWith r.1 s s.m [] [.xedit r.2.2 false] ∧ CompletesWith r.2.1 s s.m [] [.xedit r.2.2 true]) ∧
      encode s.par.keymap r.1 = [0xE0, r.2.2] ∧ encode s.par.keymap r.2.1 = [0xE0, 0xF0, r.2.2]) ∧
    (∀ r ∈ [(Instr.prtsc1M, Instr.prtsc1B, s.par.keymap.xcPrtsc1), (.prtsc2M, .prtsc2B, s.par.keymap.xcPrtsc2)],
      (s.todo = [] →
        CompletesWith r.1 s s.m [] [.prtsc r.2.2 false] ∧ CompletesWith r.2.1 s s.m [] [.prtsc r.2.2 true]) ∧
      encode s.par.keymap r.1 = [0xE0, r.2.2] ∧ encode s.par.keymap r.2.1 = [0xE0, 0xF0, r.2.2])

/-- 41_extended.md R161, R162: keypad Enter and keypad "/" branch on opt.AK on press; the plain byte is a constant. -/
def Obligations.KeypadEnterAndSlashFollowTheOption : Prop :=
  ∀ s : State, ∀ r ∈ [(Instr.kpenterM, Instr.kpenterB, s.par.keymap.xcKpenter, [(0x1B : Byte), 0x3F, 0x4D], (0x0D : Byte)),
      (.kpslashM, .kpslashB, s.par.keymap.xcKpslash, [0x1B, 0x50], 0x2F)],
    (s.todo = [] → CompletesWith r.1 s s.m (if s.opt.ak then r.2.2.2.1 else [r.2.2.2.2]) [] ∧
      CompletesWith r.2.1 s s.m [] []) ∧
    encode s.par.keymap r.1 = [0xE0, r.2.2.1] ∧ encode s.par.keymap r.2.1 = [0xE0, 0xF0, r.2.2.1]

/-- 41_extended.md R163, R164: right Alt and right Control write XMOD(code, release); `m` keeps its value whatever
opt.SW is. That right Control's event is XMOD is the spec's choice (93_implementation_defined.md U3). -/
def Obligations.RightAltAndRightControlLeaveModifiers : Prop :=
  ∀ s : State, ∀ r ∈ [(Instr.raltM, Instr.raltB, s.par.keymap.xcRalt), (.rctrlM, .rctrlB, s.par.keymap.xcRctrl)],
    (s.todo = [] → CompletesWith r.1 s s.m [] [.xmod r.2.2 false] ∧ CompletesWith r.2.1 s s.m [] [.xmod r.2.2 true]) ∧
    encode s.par.keymap r.1 = [0xE0, r.2.2] ∧ encode s.par.keymap r.2.1 = [0xE0, 0xF0, r.2.2]

/-- 41_extended.md R165 to R167: Windows and Menu keys are logged on press only. -/
def Obligations.WindowsAndMenuKeysLogOnPressOnly : Prop :=
  ∀ s : State, ∀ r ∈ [(Instr.lwinM, Instr.lwinB, s.par.keymap.xcLwin), (.rwinM, .rwinB, s.par.keymap.xcRwin),
      (.menuM, .menuB, s.par.keymap.xcMenu)],
    (s.todo = [] → CompletesWith r.1 s s.m [] [.winmenu r.2.2] ∧ CompletesWith r.2.1 s s.m [] []) ∧
    encode s.par.keymap r.1 = [0xE0, r.2.2] ∧ encode s.par.keymap r.2.1 = [0xE0, 0xF0, r.2.2]

/-- 41_extended.md R170: every extended code that is none of the 19 named ones raises UnknownExtended, on make and on
break, and does nothing else. The decoder reads such a code as XKEY. -/
def Obligations.OtherExtendedCodesAreUnknown : Prop :=
  ∀ (s : State) (c : Byte), c ∉ s.par.keymap.extendedCodes →
    (s.todo = [] → CompletesWith (.xkeyM c) s s.m [] [.xunknown c false] ∧
      CompletesWith (.xkeyB c) s s.m [] [.xunknown c true]) ∧
    (c ≠ 0xF0 → classify s.par.keymap .ext c = .unit (.xkeyM c)) ∧
    classify s.par.keymap .extRel c = .unit (.xkeyB c)

/-- 41_extended.md R150 (a) to (d): no extended unit writes `m`; no extended break sends a byte; what an extended unit
does depends neither on `m` nor on opt.SW nor on the ROM, nor, but for the makes of R161 and R162, on opt.AK. -/
def Obligations.ExtendedUnitsIgnoreModifiersSwapAndRom : Prop :=
  ∀ (i : Instr) (s : State), i.isExtended = true → s.todo = [] → ∃ t, exec i s = .next t ∧ t.m = s.m ∧
    (i.isBreak = true → t.todo = [] ∧ t.out = s.out) ∧
    (∀ m' rom' sw', exec i { s with m := m', rom := rom', opt := { s.opt with sw := sw' } } =
      .next { t with m := m', rom := rom', opt := { s.opt with sw := sw' } }) ∧
    (i ≠ .kpenterM → i ≠ .kpslashM → ∀ opt', exec i { s with opt := opt' } = .next { t with opt := opt' })

/-! ## Lock, modifier and function keys -/

/-- 42_locks_modifiers_fkeys.md R190, R191: NUM LOCK and SCROLL LOCK are swallowed, logged on press only, for every
option, table and KEYMAP (the stage precedes all others); 0x77 inside a Pause unit is no NUM LOCK event. -/
def Obligations.LockKeysAreSwallowed : Prop :=
  ∀ s : State, ∀ r ∈ [(Instr.numlockM, Instr.numlockB, (0x77 : Byte)), (.scrlockM, .scrlockB, 0x7E)],
    (s.todo = [] → CompletesWith r.1 s s.m [] [.lockkey r.2.2] ∧ CompletesWith r.2.1 s s.m [] []) ∧
    encode s.par.keymap r.1 = [r.2.2] ∧ encode s.par.keymap r.2.1 = [0xF0, r.2.2] ∧
    classify s.par.keymap .idle r.2.2 = .unit r.1 ∧ classify s.par.keymap .rel r.2.2 = .unit r.2.1 ∧
    classify s.par.keymap .p2 0x77 = .awaiting .p3 ∧ classify s.par.keymap .p7 0x77 = .unit .pause

/-- 42_locks_modifiers_fkeys.md R195, R196: a shift key's make sets its own bit, its break clears it, whatever the bit
was and whatever opt.SW is; no other modifier bit changes and nothing is sent or logged. The same code after 0xE0 is an
extended unit. -/
def Obligations.ShiftKeysWriteTheirOwnBit : Prop :=
  ∀ s : State,
    (s.todo = [] →
      CompletesWith .lshiftM s { s.m with ls := true } [] [] ∧ CompletesWith .lshiftB s { s.m with ls := false } [] [] ∧
      CompletesWith .rshiftM s { s.m with rs := true } [] [] ∧ CompletesWith .rshiftB s { s.m with rs := false } [] []) ∧
    encode s.par.keymap .lshiftM = [0x12] ∧ encode s.par.keymap .lshiftB = [0xF0, 0x12] ∧
    encode s.par.keymap .rshiftM = [0x59] ∧ encode s.par.keymap .rshiftB = [0xF0, 0x59] ∧
    classify s.par.keymap .idle 0x12 = .unit .lshiftM ∧ classify s.par.keymap .rel 0x12 = .unit .lshiftB ∧
    classify s.par.keymap .idle 0x59 = .unit .rshiftM ∧ classify s.par.keymap .rel 0x59 = .unit .rshiftB ∧
    ∀ rel, (extendedUnit s.par.keymap 0x12 rel).isExtended = true ∧ (extendedUnit s.par.keymap 0x59 rel).isExtended = true

/-- 42_locks_modifiers_fkeys.md R197, R198: Control sets and clears m[CT] and Caps Lock toggles m[CL] on its make, its
break doing nothing; with opt.SW = 1 the two keys exchange roles. The same codes after 0xE0 are extended units, and
m[CL] has no effect on shiftIndex. -/
def Obligations.ControlAndCapsLockKeys : Prop :=
  ∀ s : State,
    (s.todo = [] → s.opt.sw = false →
      CompletesWith .ctrlM s { s.m with ct := true } [] [] ∧ CompletesWith .ctrlB s { s.m with ct := false } [] [] ∧
      CompletesWith .capsM s { s.m with cl := !s.m.cl } [] [] ∧ CompletesWith .capsB s s.m [] []) ∧
    (s.todo = [] → s.opt.sw = true →
      CompletesWith .capsM s { s.m with ct := true } [] [] ∧ CompletesWith .capsB s { s.m with ct := false } [] [] ∧
      CompletesWith .ctrlM s { s.m with cl := !s.m.cl } [] [] ∧ CompletesWith .ctrlB s s.m [] []) ∧
    encode s.par.keymap .ctrlM = [0x14] ∧ encode s.par.keymap .ctrlB = [0xF0, 0x14] ∧
    encode s.par.keymap .capsM = [0x58] ∧ encode s.par.keymap .capsB = [0xF0, 0x58] ∧
    classify s.par.keymap .idle 0x14 = .unit .ctrlM ∧ classify s.par.keymap .rel 0x14 = .unit .ctrlB ∧
    classify s.par.keymap .idle 0x58 = .unit .capsM ∧ classify s.par.keymap .rel 0x58 = .unit .capsB ∧
    (∀ rel, (extendedUnit s.par.keymap 0x14 rel).isExtended = true ∧ (extendedUnit s.par.keymap 0x58 rel).isExtended = true) ∧
    shiftIndex { s.m with cl := !s.m.cl } = shiftIndex s.m

/-- 42_locks_modifiers_fkeys.md R199: Alt is always consumed: no state change, no byte, no event, on make and break. -/
def Obligations.AltKeyChangesNothing : Prop :=
  ∀ s : State, (s.todo = [] → CompletesWith .altM s s.m [] [] ∧ CompletesWith .altB s s.m [] []) ∧
    encode s.par.keymap .altM = [0x11] ∧ encode s.par.keymap .altB = [0xF0, 0x11] ∧
    classify s.par.keymap .idle 0x11 = .unit .altM ∧ classify s.par.keymap .rel 0x11 = .unit .altB

/-- 42_locks_modifiers_fkeys.md R201 to R212 (R200 with each key's code): swallowed, FKEY(code) on press only, for every
`m`, option and table. -/
def Obligations.FunctionKeysAreSwallowed : Prop :=
  ∀ s : State, ∀ r ∈ [(Instr.f1M, Instr.f1B, s.par.keymap.f1), (.f2M, .f2B, s.par.keymap.f2),
      (.f3M, .f3B, s.par.keymap.f3), (.f4M, .f4B, s.par.keymap.f4), (.f5M, .f5B, s.par.keymap.f5),
      (.f6M, .f6B, s.par.keymap.f6), (.f7M, .f7B, s.par.keymap.f7), (.f8M, .f8B, s.par.keymap.f8),
      (.f9M, .f9B, s.par.keymap.f9), (.f10M, .f10B, s.par.keymap.f10), (.f11M, .f11B, s.par.keymap.f11),
      (.f12M, .f12B, s.par.keymap.f12)],
    (s.todo = [] → CompletesWith r.1 s s.m [] [.fkey r.2.2] ∧ CompletesWith r.2.1 s s.m [] []) ∧
    encode s.par.keymap r.1 = [r.2.2] ∧ encode s.par.keymap r.2.1 = [0xF0, r.2.2]

/-- 42_locks_modifiers_fkeys.md R193, as it is observed: for every non-extended code, make or break, what happens under
opt.SW = 1 is what happens under opt.SW = 0 to the code with 0x58 and 0x14 exchanged. -/
def Obligations.SwapExchangesControlAndCapsLock : Prop :=
  ∀ (s : State) (c : Byte) (rel : Bool), s.opt.sw = false →
    ∃ t, exec (plainUnit s.par.keymap c rel) { s with opt := { s.opt with sw := true } } =
        .next { t with opt := { s.opt with sw := true } } ∧
      exec (plainUnit s.par.keymap (if c = 0x58 then 0x14 else if c = 0x14 then 0x58 else c) rel) s = .next t

/-! ## Keypad -/

/-- 43_keypad.md R232 to R242: with opt.AK = 1 the digit keys and '.' send ESC '?' and 'p' to 'z' on make, whatever
`m` and the ROM hold; their break is consumed and sends nothing. -/
def Obligations.KeypadDigitsInApplicationMode : Prop :=
  ∀ s : State, ∀ r ∈ [(Instr.kp0M, Instr.kp0B, s.par.keymap.kp0, (0x70 : Byte)), (.kp1M, .kp1B, s.par.keymap.kp1, 0x71),
      (.kp2M, .kp2B, s.par.keymap.kp2, 0x72), (.kp3M, .kp3B, s.par.keymap.kp3, 0x73),
      (.kp4M, .kp4B, s.par.keymap.kp4, 0x74), (.kp5M, .kp5B, s.par.keymap.kp5, 0x75),
      (.kp6M, .kp6B, s.par.keymap.kp6, 0x76), (.kp7M, .kp7B, s.par.keymap.kp7, 0x77),
      (.kp8M, .kp8B, s.par.keymap.kp8, 0x78), (.kp9M, .kp9B, s.par.keymap.kp9, 0x79),
      (.kpdotM, .kpdotB, s.par.keymap.kpDot, 0x7A)],
    (s.todo = [] → s.opt.ak = true →
      CompletesWith r.1 s s.m [0x1B, 0x3F, r.2.2.2] [] ∧ CompletesWith r.2.1 s s.m [] []) ∧
    encode s.par.keymap r.1 = [r.2.2.1] ∧ encode s.par.keymap r.2.1 = [0xF0, r.2.2.1]

/-- 43_keypad.md R243 to R245: with opt.AK = 1 "*" sends ESC 'Q', "-" sends ESC 'R', "+" nothing; breaks are
consumed. -/
def Obligations.KeypadOperatorsInApplicationMode : Prop :=
  ∀ s : State, ∀ r ∈ [(Instr.kpstarM, Instr.kpstarB, s.par.keymap.kpStar, [(0x1B : Byte), 0x51]),
      (.kpminusM, .kpminusB, s.par.keymap.kpMinus, [0x1B, 0x52]), (.kpplusM, .kpplusB, s.par.keymap.kpPlus, [])],
    (s.todo = [] → s.opt.ak = true → CompletesWith r.1 s s.m r.2.2.2 [] ∧ CompletesWith r.2.1 s s.m [] []) ∧
    encode s.par.keymap r.1 = [r.2.2.1] ∧ encode s.par.keymap r.2.1 = [0xF0, r.2.2.1]

/-- 43_keypad.md R247: with opt.AK = 0 each of the 14 keypad keys is handled exactly like an ordinary key of its code:
the make and the break do what KEY.M and KEY.B do. -/
def Obligations.KeypadKeysAreOrdinaryWithModeOff : Prop :=
  ∀ s : State, ∀ r ∈ [(Instr.kp0M, Instr.kp0B, s.par.keymap.kp0), (.kp1M, .kp1B, s.par.keymap.kp1),
      (.kp2M, .kp2B, s.par.keymap.kp2), (.kp3M, .kp3B, s.par.keymap.kp3), (.kp4M, .kp4B, s.par.keymap.kp4),
      (.kp5M, .kp5B, s.par.keymap.kp5), (.kp6M, .kp6B, s.par.keymap.kp6), (.kp7M, .kp7B, s.par.keymap.kp7),
      (.kp8M, .kp8B, s.par.keymap.kp8), (.kp9M, .kp9B, s.par.keymap.kp9), (.kpdotM, .kpdotB, s.par.keymap.kpDot),
      (.kpstarM, .kpstarB, s.par.keymap.kpStar), (.kpminusM, .kpminusB, s.par.keymap.kpMinus),
      (.kpplusM, .kpplusB, s.par.keymap.kpPlus)],
    s.opt.ak = false → ∃ t u, exec r.1 s = .next t ∧ exec (.keyM r.2.2) s = .next t ∧
      exec r.2.1 s = .next u ∧ exec (.keyB r.2.2) s = .next u

/-- 43_keypad.md R246: a keypad Num-Lock variant that KEYMAP puts on a code of its own is swallowed silently when
opt.AK = 1; with the default 0x77 the unit is NUMLOCK. -/
def Obligations.KeypadNumLockVariantIsSwallowed : Prop :=
  (∀ s : State, s.todo = [] → s.opt.ak = true →
    CompletesWith (.keyM s.par.keymap.kpNumLk) s s.m [] [] ∧ CompletesWith (.keyB s.par.keymap.kpNumLk) s s.m [] []) ∧
  (∀ km : KeyMap, km.kpNumLk = 0x77 → plainUnit km km.kpNumLk false = .numlockM ∧ plainUnit km km.kpNumLk true = .numlockB)

/-! ## The ASCII stage -/

/-- 44_ascii.md R261 to R265: KEY.M and KEY.B of a code that the Num-Lock variant does not claim, from the rules'
own arithmetic. Entry 0: UnknownKey on make and on break, no byte. Otherwise the make sends the one byte
CapsAdjust(e & 0x7F) and the break nothing, with no event. -/
def Obligations.OrdinaryKeysSendTheirTableEntry : Prop :=
  ∀ (s : State) (c : Byte), s.todo = [] → ¬(s.opt.ak = true ∧ c = s.par.keymap.kpNumLk) →
    let idx := (if s.m.ls ∨ s.m.rs then 1 else 0) + (if s.m.ct then 2 else 0)
    let e : Byte := if 0x80 ≤ c.toNat then 0x00 else Memory.read s.rom (BitVec.ofNat 9 (c.toNat * 4 + idx))
    let v := e &&& 0x7F
    let sent := if s.m.cl = true ∧ 0x61 ≤ v.toNat ∧ v.toNat ≤ 0x7A then v - 0x20 else v
    (e = 0x00 → CompletesWith (.keyM c) s s.m [] [.unknown c false] ∧ CompletesWith (.keyB c) s s.m [] [.unknown c true]) ∧
    (e ≠ 0x00 → CompletesWith (.keyM c) s s.m [sent] [] ∧ CompletesWith (.keyB c) s s.m [] [])

/-- 20_memory.md R58: the ROM address is code*4 + idx and within the ROM; a code of 0x80 or above reads as 0. -/
def Obligations.RomAddressIsRowMajor : Prop :=
  ∀ (rom : Memory) (code : Byte) (idx : BitVec 2),
    (code.toNat < 0x80 → (romAddress code idx).toNat = code.toNat * 4 + idx.toNat ∧
      tableEntry rom code idx = Memory.read rom (romAddress code idx)) ∧
    (0x80 ≤ code.toNat → tableEntry rom code idx = 0x00)

/-- 20_memory.md R59: setting bit 7 of a non-zero entry changes nothing the key does; the entry 0x80 makes the key send
the byte 0x00. -/
def Obligations.EntryBitSevenIsNeverSent : Prop :=
  ∀ (s : State) (rom' : Memory) (c : Byte) (rel : Bool), s.todo = [] →
    ¬(s.opt.ak = true ∧ c = s.par.keymap.kpNumLk) →
    tableEntry s.rom c (shiftIndex s.m) ≠ 0x00 →
    (tableEntry rom' c (shiftIndex s.m) = tableEntry s.rom c (shiftIndex s.m) ||| 0x80 →
      ∃ t, exec (if rel then .keyB c else .keyM c) s = .next t ∧
        exec (if rel then .keyB c else .keyM c) { s with rom := rom' } = .next { t with rom := rom' }) ∧
    (tableEntry s.rom c (shiftIndex s.m) = 0x80 → CompletesWith (.keyM c) s s.m [0x00] [])

/-- 10_state.md R28 and R22: shiftIndex = (shift ? 1 : 0) | (m[CT] ? 2 : 0) with shift = m[LS] | m[RS], caps lock no part
of it; a write to one modifier register never changes another. -/
def Obligations.ModifierRegistersAndShiftIndex : Prop :=
  ∀ m : Modifiers, (shiftIndex m).toNat = (if m.ls || m.rs then 1 else 0) ||| (if m.ct then 2 else 0) ∧
    shift m = (m.get .LS || m.get .RS) ∧ (shiftIndex m).getLsbD 0 = shift m ∧ (shiftIndex m).getLsbD 1 = m.get .CT ∧
    (∀ v, shiftIndex (m.set .CL v) = shiftIndex m) ∧
    ∀ a b v, (m.set a v).get a = v ∧ (a ≠ b → (m.set a v).get b = m.get b)

/-! ## Frames over all units -/

/-- 10_state.md R21: only the eight non-extended Shift, Control and Caps Lock units write `m`, each shift unit only its
own bit, Control and Caps Lock neither shift bit. -/
def Obligations.OnlyModifierUnitsWriteModifiers : Prop :=
  ∀ (i : Instr) (s : State), ∃ t, exec i s = .next t ∧
    (i ∉ modifierUnits → t.m = s.m) ∧
    (i ≠ .lshiftM → i ≠ .lshiftB → t.m.ls = s.m.ls) ∧ (i ≠ .rshiftM → i ≠ .rshiftB → t.m.rs = s.m.rs) ∧
    (i ∈ [.lshiftM, .lshiftB, .rshiftM, .rshiftB] → t.m.ct = s.m.ct ∧ t.m.cl = s.m.cl)

/-- 10_state.md R21; 60_exceptions.md R296: over whole steps, `m` changes only in a step that completes one of those
eight units. -/
def Obligations.ModifiersChangeOnlyWhenAModifierUnitCompletes : Prop :=
  ∀ s t, step s = .next t → t.m ≠ s.m →
    ∃ p b i, s.phase = phaseBits p ∧ s.envTick.rx.tryRead = some b ∧ classify s.par.keymap p b = .unit i ∧
      i ∈ modifierUnits ∧ step s = exec i s.envTick.consume

/-- No break unit ever produces an output byte (41_extended.md R150; 42_locks_modifiers_fkeys.md R195 to R200;
43_keypad.md R230; 44_ascii.md R262), and the units recognised as breaks are those of formats B and XB. -/
def Obligations.BreakUnitsSendNothing : Prop :=
  (∀ (i : Instr) (s : State), i.isBreak = true → s.todo = [] →
    ∃ t, exec i s = .next t ∧ t.todo = [] ∧ t.out = s.out ∧ t.phase = phaseBits .idle) ∧
  (∀ km c, (plainUnit km c true).isBreak = true ∧ (extendedUnit km c true).isBreak = true)

/-- 20_memory.md R54, R55; 00_scope.md R11: a unit owes nothing, or one byte, or one of the listed escape sequences, so
at most three bytes, three only when opt.AK = 1; every byte of a unit other than SP.AA has bit 7 clear, and SP.AA sends
BAT_ACK_BYTE. -/
def Obligations.UnitsSendOneByteOrAListedSequence : Prop :=
  ∀ (i : Instr) (s : State), s.todo = [] → ∃ t, exec i s = .next t ∧
    (t.owed.length ≤ 1 ∨ t.owed ∈ escapeSequences) ∧ t.owed.length ≤ 3 ∧ (t.owed.length = 3 → s.opt.ak = true) ∧
    (i ≠ .spAA → ∀ b ∈ t.owed, b.toNat < 0x80) ∧ (i = .spAA → t.owed = [s.par.batAckByte])

/-- The frame of every unit: `exec` answers a next state in which nothing but the phase, `m`, the rest of the step and
DIAG may differ; DIAG only grows; every address of the ROM reads as before; every unit ends in phase IDLE. -/
def Obligations.UnitsTouchOnlyPhaseModifiersAndStreams : Prop :=
  ∀ (i : Instr) (s : State), ∃ t, exec i s = .next t ∧
    t = { s with phase := t.phase, m := t.m, todo := t.todo, diag := t.diag } ∧ s.diag <+: t.diag ∧
    (∀ a, Memory.read t.rom a = Memory.read s.rom a) ∧ (s.todo = [] → t.settle.phase = phaseBits .idle)

/-! ## Decoding -/

/-- Decode and encode agree (30_encoding.md R80, R82): under a well-formed KEYMAP every well-formed unit, whatever
follows it, decodes from its bytes to itself. -/
def Obligations.DecodeOfEncode : Prop :=
  ∀ (km : KeyMap) (i : Instr) (rest : List Byte), km.wf = true → i.wf km = true →
    decode km (encode km i ++ rest) = .unit i rest

/-- Each byte sequence has one meaning (30_encoding.md R82): what decodes to a unit is that unit's encoding followed by
the rest, and the unit is well formed. -/
def Obligations.EncodeOfDecode : Prop :=
  ∀ (km : KeyMap) (i : Instr) (bytes rest : List Byte), decode km bytes = .unit i rest →
    bytes = encode km i ++ rest ∧ i.wf km = true

/-- 30_encoding.md R97: the parse is total: at top level a byte list is a unit and a rest, a broken-off Pause unit, or
an unfinished unit of fewer than 8 bytes. -/
def Obligations.EveryByteSequenceParses : Prop :=
  ∀ (km : KeyMap) (bytes : List Byte),
    (∃ i rest, decode km bytes = .unit i rest ∧ bytes.length = (encode km i).length + rest.length) ∨
    (∃ k b rest, decode km bytes = .rejected (.pauseMismatch k b rest) ∧ 1 ≤ k ∧ k ≤ 7 ∧ b ≠ pauseSeq k ∧
      bytes = 0xE1 :: ((List.range (k - 1)).map (fun j => pauseSeq (j + 1))) ++ b :: rest) ∨
    (∃ p, decode km bytes = .rejected (.incomplete p) ∧ p ≠ .boot ∧ bytes.length < 8)

/-- Words written out from 30_encoding.md R80 and the opcode table's codes decode to their units; the first byte of a
word is its low byte. -/
def Obligations.SampleWordsDecodeToTheirUnits : Prop :=
  decodeTableWord 8 0xAA = some .spAA ∧ decodeTableWord 64 0x77F014F0E17714E1 = some .pause ∧
  decodeTableWord 8 0x77 = some .numlockM ∧ decodeTableWord 16 0x12F0 = some .lshiftB ∧
  decodeTableWord 8 0x83 = some .f7M ∧ decodeTableWord 16 0x71F0 = some .kpdotB ∧
  decodeTableWord 16 0x75E0 = some .upM ∧ decodeTableWord 24 0x12F0E0 = some .prtsc1B ∧
  decodeTableWord 8 0x1C = some (.keyM 0x1C) ∧ decodeTableWord 24 0x83F0E0 = some (.xkeyB 0x83)

/-- The KEYMAP the machine holds after reset: the default codes of 30_encoding.md section 4, scan code set 2, the spec's
decision D11 from general knowledge (PRESUMED, notes/assumptions/8.md); it is well formed in R94's sense. -/
def Obligations.DefaultKeymapIsScanCodeSetTwo : Prop :=
  State.reset.par.keymap.wf = true ∧
  State.reset.par.keymap.extendedCodes = [0x75, 0x72, 0x74, 0x6B, 0x70, 0x71, 0x6C, 0x69, 0x7D, 0x7A, 0x5A, 0x4A, 0x11,
    0x14, 0x1F, 0x27, 0x2F, 0x12, 0x7C] ∧
  State.reset.par.keymap.plainCodes = [0x77, 0x7E, 0x12, 0x59, 0x14, 0x58, 0x11, 0x05, 0x06, 0x04, 0x0C, 0x03, 0x0B, 0x83,
    0x0A, 0x01, 0x09, 0x78, 0x07, 0x70, 0x69, 0x72, 0x7A, 0x6B, 0x73, 0x74, 0x6C, 0x75, 0x7D, 0x71, 0x7C, 0x7B, 0x79] ∧
  State.reset.par.keymap.kpNumLk = 0x77

/-! ## Steps -/

/-- When the waiting byte completes a unit, the step is the unit's meaning on the state after the environment's events
and the removal of the byte (00_scope.md R11; 20_memory.md R51). -/
def Obligations.StepRunsTheDecodedUnit : Prop :=
  ∀ (s : State) (p : Phase) (b : Byte) (i : Instr), s.phase = phaseBits p → s.todo = [] →
    s.envTick.rx.tryRead = some b → classify s.par.keymap p b = .unit i →
    step s = exec i s.envTick.consume ∧ s.envTick.consume.todo = [] ∧ s.envTick.consume.par = s.par

/-- A whole unit waiting in RawKeySource runs (30_encoding.md R80, R82): as many steps from IDLE as it has bytes are
its meaning, on the state with its bytes taken and the phase in which its last byte was awaited. -/
def Obligations.UnitBytesRunTheUnit : Prop :=
  ∀ (s : State) (i : Instr) (rest : List Byte), s.par.keymap.wf = true → i.wf s.par.keymap = true →
    Holds s .idle (encode s.par.keymap i ++ rest) →
    runSteps (encode s.par.keymap i).length s =
      exec i { s.taken (encode s.par.keymap i).length rest with
        phase := phaseBits (lastByte s.par.keymap .idle (encode s.par.keymap i)).1 }

/-- The machine refines the spec's Step (40_special_prefix_pause.md R133): in every phase but BOOT, for all modifiers,
options, bytes, tables and KEYMAPs, and whatever the environment does, a step that reads a byte comes, once the host
has acknowledged, to exactly (state', out, diag) of Step; in phase BOOT no byte is consumed; the next phase of Step
depends on phase and byte only; and from IDLE the decoder is back in IDLE after at most 8 bytes. `specStep` holds choices
with the spec's rules: the wrong Pause byte discarded (decision D6, notes/assumptions/14.md), the options read in the
completing step (D7, 22.md), codes carried whole (D4, D5, 16.md), and those of `dispatch`: right Control's event XMOD
(15.md), the Num-Lock variant inside KEY (24.md), the events on break (28.md), and, for a KEYMAP with two equal extended
codes, whose order R94 does not give, the first of R91's list (30.md). That BOOT consumes no byte is decision D22. -/
def Obligations.MachineRefinesSpecStep : Prop :=
  (∀ (s : State) (p : Phase) (b : Byte), p ≠ .boot → s.phase = phaseBits p → s.todo = [] →
    s.envTick.rx.tryRead = some b →
    let r := specStep s.par s.rom s.envTick.opt p s.m b
    ∃ t, step s = .next t ∧ t.out = s.out ∧
      t.settle = { s.envTick.consume with
        phase := phaseBits r.phase, m := r.reply.m, out := s.out ++ r.reply.out, diag := s.diag ++ r.reply.diag }) ∧
  (∀ s : State, s.phase = phaseBits .boot → ∃ t, step s = .next t ∧ t.inPos = s.inPos) ∧
  (∀ par rom opt p m b, (specStep par rom opt p m b).phase = nextPhase par.keymap p b) ∧
  (∀ (km : KeyMap) (bytes : List Byte), bytes.length = 8 →
    ∃ k, 1 ≤ k ∧ k ≤ 8 ∧ (bytes.take k).foldl (nextPhase km) .idle = .idle)

/-- The dispatch order (30_encoding.md R96): for every key event, running the unit the decoder makes of it does what
the stages of Dispatch, tried in order, do. `dispatch` holds the model's choices with the spec's rules: right Control's
event XMOD (notes/assumptions/15.md), the events on break (28.md), the Num-Lock variant inside KEY (24.md); and where a
KEYMAP gives two extended keys one code, which R94 does not order, both sides take the first of R91's list (30.md). -/
def Obligations.UnitsAgreeWithDispatchOrder : Prop :=
  ∀ (s : State) (c : Byte) (rel ext : Bool), s.todo = [] →
    let r := dispatch s.par.keymap s.rom s.opt s.m { code := c, release := rel, extended := ext }
    CompletesWith (if ext then extendedUnit s.par.keymap c rel else plainUnit s.par.keymap c rel) s r.m r.out r.diag

/-- 10_state.md R26: from any phase but BOOT at most 7 further bytes bring the decoder back to IDLE. -/
def Obligations.DecoderReturnsToIdleWithinSevenBytes : Prop :=
  ∀ (km : KeyMap) (p : Phase) (bytes : List Byte), p ≠ .boot → bytes.length = 7 →
    ∃ k, k ≤ 7 ∧ (bytes.take k).foldl (nextPhase km) p = .idle

/-- 10_state.md R31: a byte that completes no unit's dispatch (a prefix, a special code, a Pause byte) is stepped
without reading the options. -/
def Obligations.OptionsAreReadOnlyAtDispatch : Prop :=
  ∀ (s : State) (p : Phase) (b : Byte) (rest : List Byte), p ≠ .boot → Holds s p (b :: rest) →
    (∀ i, classify s.par.keymap p b = .unit i → i ∈ [.spFA, .spAA, .spEE, .spFE, .sp00, .spFF, .pause]) →
    ∃ t, step s = .next t ∧ ∀ opt', step { s with opt := opt' } = .next { t with opt := opt' }

/-- 20_memory.md R51, R65 (b): the byte taken is the first one waiting, it is removed, none is skipped or read twice; and
while an output byte is unacknowledged no raw byte is taken. -/
def Obligations.InputIsConsumedInOrder : Prop :=
  ∀ (s : State) (p : Phase), s.phase = phaseBits p →
    (∀ b, p ≠ .boot → s.todo = [] → s.envTick.rx.tryRead = some b → ∃ t, step s = .next t ∧
      s.envTick.rx.buffer = b :: t.rx.buffer ∧ t.inPos = s.inPos + 1) ∧
    (s.todo ≠ [] → ∃ t, step s = .next t ∧ t.inPos = s.inPos ∧ t.rx = s.envTick.rx)

/-- The model's reading of 20_memory.md R53 and 60_exceptions.md R288, as vectors B2 and B5 of 95_test_vectors.md show
it: a byte joins OUT when it is acknowledged, not when it is offered (notes/assumptions/2.md), and a step acknowledges
at most one byte, the acknowledgment being a level (12.md). With a byte in flight, a host that does not acknowledge leaves the block
stuck with nothing changed but the environment's own; one that does gets exactly that byte appended to OUT, and what
the step finally comes to is what it was to come to. -/
def Obligations.HostAcknowledgesOneByteAtATime : Prop :=
  ∀ (s : State) (p : Phase) (b : Byte) (rest : List Action), s.phase = phaseBits p → s.todo = .tx b :: rest →
    (s.envTick.hostAcks = false → step s = .next s.envTick) ∧
    (s.envTick.hostAcks = true → ∃ t, step s = .next t ∧ t.out = s.out ++ [b] ∧ t.owed = txBytes rest ∧
      t.settle = s.envTick.settle)

/-- 70_reset_and_hazards.md R327: a step that owes n output bytes completes after n host acknowledgments. -/
def Obligations.OwedBytesCompleteAfterAsManyAcknowledgments : Prop :=
  ∀ (s : State) (p : Phase), s.phase = phaseBits p → s.env = [] → s.hostAcks = true →
    (s.todo = [] ∨ ∃ b rest, s.todo = .tx b :: rest) →
    runSteps s.owed.length s = .next s.settle

/-- 60_exceptions.md R286 (with R289): in any phase but BOOT, with nothing owed and "try read" answering none: if the
error status is not zero, Recover clears RawKeySource's bits, writes RECOVER and changes nothing of the block (of the
undelivered bytes some, none or all are left, 93_implementation_defined.md U4); else the block waits, and the step
changes nothing but what the environment does. Two clauses are choices: that Recover keeps the phase is the spec's
decision D14, that it leaves RawKeySource's stall to the environment is the model's (notes/assumptions/18.md). -/
def Obligations.PollWithoutAByteRecoversOrWaits : Prop :=
  ∀ (s : State) (p : Phase), p ≠ .boot → s.phase = phaseBits p → s.todo = [] → s.envTick.rx.tryRead = none →
    (s.envTick.rx.status ≠ 0 → ∃ kept, kept.Sublist s.envTick.rx.buffer ∧
      step s = .next { s.envTick with rx := { s.envTick.rx with buffer := kept, status := 0 }
                                      freeDraws := s.freeDraws + 1, diag := s.diag ++ [.recover] }) ∧
    (s.envTick.rx.status = 0 → step s = .next s.envTick)

/-- 60_exceptions.md R290: a waiting byte is taken before the error status is looked at: whatever the status bits are,
the step is the same and leaves them. -/
def Obligations.WaitingByteIsTakenBeforeTheErrorStatus : Prop :=
  ∀ (s : State) (p : Phase) (b : Byte) (rest : List Byte), p ≠ .boot → Holds s p (b :: rest) →
    ∃ t, step s = .next t ∧ t.rx.status = s.rx.status ∧
      ∀ bits, step { s with rx := { s.rx with status := bits } } = .next { t with rx := { t.rx with status := bits } }

/-- 20_memory.md R68, R51: what the environment does in a step touches its own ports only, and it can change neither
`phase` nor `m` nor anything else of the block; the bytes it delivers queue behind those waiting, in order; a sticky
error bit stays (10_state.md R32). -/
def Obligations.EnvironmentCannotTouchTheBlock : Prop :=
  ∀ (s : State) (es : List EnvEvent) (later : List (List EnvEvent)), s.env = es :: later →
    s.envTick = { s with opt := s.envTick.opt, rx := s.envTick.rx, hostAcks := s.envTick.hostAcks, env := later } ∧
    s.envTick.rx.buffer =
      s.rx.buffer ++ es.filterMap (fun e => match e with | .deliver b => some b | _ => none) ∧
    ∀ n, s.rx.status.testBit n = true → s.envTick.rx.status.testBit n = true

/-- 20_memory.md R56: DIAG never feeds back: whatever it holds, a legal step does the same and appends the same. -/
def Obligations.DiagnosticsNeverFeedBack : Prop :=
  ∀ (s : State) (p : Phase), s.phase = phaseBits p → ∃ t events, step s = .next t ∧ t.diag = s.diag ++ events ∧
    ∀ d, step { s with diag := d } = .next { t with diag := d ++ events }

/-- 20_memory.md R57, R67; 10_state.md R33: no step writes the ROM or a parameter: every address reads as before. -/
def Obligations.RomAndParametersAreNeverWritten : Prop :=
  ∀ (s : State) (p : Phase), s.phase = phaseBits p → ∃ t, step s = .next t ∧ t.rom = s.rom ∧ t.par = s.par ∧
    ∀ a, Memory.read t.rom a = Memory.read s.rom a

/-- 10_state.md R25, 93_implementation_defined.md U6: the machine faults exactly when the phase register holds one of the
encodings 12 to 15, and answers a next state otherwise (R280: no process termination). -/
def Obligations.OnlyReservedPhaseEncodingsFault : Prop :=
  ∀ s : State, (12 ≤ s.phase.toNat → step s = .fault .illegalPhase) ∧ (s.phase.toNat < 12 → ∃ t, step s = .next t)

/-! ## Invariants -/

/-- The invariant holds at reset. -/
def Obligations.ResetMeetsTheInvariant : Prop := BlockInvariant State.reset

/-- The invariant is kept by every step from every state that meets it: the ROM's list stays canonical; OUT begins with
the banner once the block has left BOOT (70_reset_and_hazards.md R311); the phase stays legal (10_state.md R25); an
unfinished step stays a suffix of a banner or of a unit's at most three bytes (00_scope.md R11). -/
def Obligations.EveryStepKeepsTheInvariant : Prop := ∀ s, BlockInvariant s → ∃ t, step s = .next t ∧ BlockInvariant t

/-- "The main loop runs forever" (60_exceptions.md R289): from a state of the invariant no number of steps ends in a
fault or a refusal, and OUT only grows. -/
def Obligations.RunsNeverStop : Prop :=
  ∀ (k : Nat) (s : State), BlockInvariant s → ∃ t, runSteps k s = .next t ∧ BlockInvariant t ∧ s.out <+: t.out

/-! ## Hazards -/

/-- 70_reset_and_hazards.md R324: n makes of the caps-lock-acting key leave m[CL] unchanged when n is even and inverted
when it is odd, and all else but the count of bytes as it was. -/
def Obligations.RepeatedCapsLockMakesToggle : Prop :=
  ∀ (s : State) (n : Nat) (rest : List Byte), s.opt.sw = false → Holds s .idle (List.replicate n 0x58 ++ rest) →
    runSteps n s =
      .next { s.taken n rest with m := { s.m with cl := if n % 2 = 0 then s.m.cl else !s.m.cl } }
end

