-- ==== Sys2Proof/Laws/Decode.lean ====
section
/-! SUPPORT. What the decoder's lookup of a key code can answer, said once. -/

namespace Sys2Proof

/-- The codes of the opcode map are those that well-formedness speaks of. -/
theorem plainCodes_eq (km : KeyMap) : km.plainCodes = (plainKeys km).map (·.1) := rfl

theorem extendedCodes_eq (km : KeyMap) : km.extendedCodes = (extendedKeys km).map (·.1) := rfl

/-- The lookup answers the generic unit when no row has the code, else a row's unit for that code. -/
theorem unitOfCode_cases (rows : List KeyRow) (other : Instr) (c : Byte) (release : Bool) :
    (unitOfCode rows other c release = other ∧ ∀ r ∈ rows, c ≠ r.1) ∨
    ∃ r ∈ rows, c = r.1 ∧ unitOfCode rows other c release = if release then r.2.2 else r.2.1 := by
  induction rows with
  | nil => exact .inl ⟨rfl, by simp⟩
  | cons r rest ih =>
    obtain ⟨code, make, brk⟩ := r
    unfold unitOfCode
    by_cases hc : c = code
    · exact .inr ⟨(code, make, brk), by simp, hc, by simp [hc]⟩
    · rw [if_neg hc]
      rcases ih with ⟨h, hn⟩ | ⟨r, hr, h⟩
      · exact .inl ⟨h, by simpa [hc] using hn⟩
      · exact .inr ⟨r, by simp [hr], h⟩

/-- Every named non-extended key: its units are well formed, encoded by its code, not extended, its break a break. -/
theorem plainKeys_spec (km : KeyMap) : ∀ r ∈ plainKeys km,
    r.2.1.wf km = true ∧ r.2.2.wf km = true ∧ encode km r.2.1 = [r.1] ∧ encode km r.2.2 = [0xF0, r.1] ∧
    r.2.1.isExtended = false ∧ r.2.2.isExtended = false ∧ r.2.1.isBreak = false ∧ r.2.2.isBreak = true := by
  simp [plainKeys, Instr.wf, encode, Instr.isExtended, Instr.isBreak]

/-- Every named extended key: its units are well formed, encoded by its code, extended, its break a break. -/
theorem extendedKeys_spec (km : KeyMap) : ∀ r ∈ extendedKeys km,
    r.2.1.wf km = true ∧ r.2.2.wf km = true ∧ encode km r.2.1 = [0xE0, r.1] ∧ encode km r.2.2 = [0xE0, 0xF0, r.1] ∧
    r.2.1.isExtended = true ∧ r.2.2.isExtended = true ∧ r.2.1.isBreak = false ∧ r.2.2.isBreak = true := by
  simp [extendedKeys, Instr.wf, encode, Instr.isExtended, Instr.isBreak]

/-- The unit of a non-extended key event is well formed and encoded by its bytes. -/
theorem plainUnit_spec (km : KeyMap) (c : Byte) (release : Bool) (hc : release = false → c ∉ Config.idleBytes) :
    (plainUnit km c release).wf km = true ∧
    encode km (plainUnit km c release) = if release then [0xF0, c] else [c] := by
  unfold plainUnit
  rcases unitOfCode_cases (plainKeys km) (if release then .keyB c else .keyM c) c release with ⟨h, hn⟩ | ⟨r, hr, rfl, h⟩
  · have hp : c ∉ km.plainCodes := by
      rw [plainCodes_eq, List.mem_map]
      rintro ⟨r, hr, rfl⟩
      exact hn r hr rfl
    rw [h]
    cases release
    · simpa [Instr.wf, encode, hp] using hc rfl
    · simpa [Instr.wf, encode] using hp
  · have hs := plainKeys_spec km r hr
    rw [h]
    cases release <;> simp [hs]

/-- The unit of an extended key event is well formed and encoded by its bytes. -/
theorem extendedUnit_spec (km : KeyMap) (c : Byte) (release : Bool) (hc : release = false → c ≠ 0xF0) :
    (extendedUnit km c release).wf km = true ∧
    encode km (extendedUnit km c release) = if release then [0xE0, 0xF0, c] else [0xE0, c] := by
  unfold extendedUnit
  rcases unitOfCode_cases (extendedKeys km) (if release then .xkeyB c else .xkeyM c) c release
    with ⟨h, hn⟩ | ⟨r, hr, rfl, h⟩
  · have hp : c ∉ km.extendedCodes := by
      rw [extendedCodes_eq, List.mem_map]
      rintro ⟨r, hr, rfl⟩
      exact hn r hr rfl
    rw [h]
    cases release
    · simpa [Instr.wf, encode, hp] using hc rfl
    · simpa [Instr.wf, encode] using hp
  · have hs := extendedKeys_spec km r hr
    rw [h]
    cases release <;> simp [hs]

end Sys2Proof
end

