-- ==== Sys2Proof/Laws/Memory.lean ====
section
/-! SUPPORT. The ROM image's laws: binding an entry keeps the canonical form, is read back, and leaves every other
address alone. -/

namespace Sys2Proof.Machine

theorem Memory.wf_iff (mem : Memory) : Memory.wf mem = true ↔
    mem.Pairwise (fun a b => a.1 < b.1) ∧ ∀ c ∈ mem, c.1 < 512 ∧ c.2 ≠ romUnlisted c.1 := by
  simp [Memory.wf, List.all_eq_true]

/-- Every entry of the image after a binding is the bound one or was there before. -/
theorem Memory.mem_bind {mem : Memory} {a : Nat} {v : Byte} {c : Host.Cell} (h : c ∈ Memory.bind mem a v) :
    (c = (a, v) ∧ v ≠ romUnlisted a) ∨ c ∈ mem := by
  induction mem with
  | nil =>
    unfold Memory.bind at h
    split at h <;> simp_all
  | cons d rest ih =>
    unfold Memory.bind at h
    split_ifs at h <;> simp only [List.mem_cons] at h ⊢ <;> tauto

theorem Memory.wf_bind {mem : Memory} {a : Nat} (v : Byte) (h : Memory.wf mem = true) (ha : a < 512) :
    Memory.wf (Memory.bind mem a v) = true := by
  rw [Memory.wf_iff] at h ⊢
  refine ⟨?_, fun c hc => ?_⟩
  · have hp := h.1
    clear h
    induction mem with
    | nil => unfold Memory.bind; split <;> simp
    | cons d rest ih =>
      have hd := List.pairwise_cons.mp hp
      unfold Memory.bind
      split_ifs with h1 h2 h3 h4
      · exact hp
      · exact List.pairwise_cons.mpr ⟨fun c hc => by
          rcases List.mem_cons.mp hc with rfl | hc
          · exact h1
          · exact h1.trans (hd.1 c hc), hp⟩
      · exact hd.2
      · exact List.pairwise_cons.mpr ⟨fun c hc => by simpa [h3] using hd.1 c hc, hd.2⟩
      · refine List.pairwise_cons.mpr ⟨fun c hc => ?_, ih hd.2⟩
        rcases Memory.mem_bind hc with ⟨rfl, -⟩ | hc
        · simp only; omega
        · exact hd.1 c hc
  · rcases Memory.mem_bind hc with ⟨rfl, hv⟩ | hc
    · exact ⟨ha, hv⟩
    · exact h.2 c hc

theorem Memory.lookup_of_lt {mem : Memory} {a : Nat} (h : ∀ c ∈ mem, a < c.1) : mem.lookup a = none := by
  induction mem with
  | nil => rfl
  | cons c rest ih =>
    have := h c (by simp)
    simp only [List.lookup]
    rw [show (a == c.1) = false by simp; omega]
    exact ih fun d hd => h d (by simp [hd])

/-- The bound address reads as what was bound. -/
theorem Memory.getD_lookup_bind_same {mem : Memory} (hp : mem.Pairwise (fun a b => a.1 < b.1)) (a : Nat) (v : Byte) :
    ((Memory.bind mem a v).lookup a).getD (romUnlisted a) = v := by
  induction mem with
  | nil =>
    unfold Memory.bind
    split_ifs with h <;> simp [h]
  | cons d rest ih =>
    have hd := List.pairwise_cons.mp hp
    unfold Memory.bind
    by_cases h1 : a < d.1
    · rw [if_pos h1]
      by_cases h2 : v = romUnlisted a
      · rw [if_pos h2, Memory.lookup_of_lt fun c hc => ?_]
        · simp [h2]
        · rcases List.mem_cons.mp hc with rfl | hc
          · exact h1
          · exact h1.trans (hd.1 c hc)
      · simp [if_neg h2]
    · rw [if_neg h1]
      by_cases h3 : a = d.1
      · rw [if_pos h3]
        by_cases h4 : v = romUnlisted a
        · rw [if_pos h4, Memory.lookup_of_lt fun c hc => by simpa [h3] using hd.1 c hc]
          simp [h4]
        · simp [if_neg h4]
      · have hda : (a == d.1) = false := by simpa using h3
        rw [if_neg h3]
        simpa [List.lookup, hda] using ih hd.2

/-- Every other address reads as before. -/
theorem Memory.lookup_bind_other (mem : Memory) {a b : Nat} (v : Byte) (hb : b ≠ a) :
    (Memory.bind mem a v).lookup b = mem.lookup b := by
  have hba : (b == a) = false := by simpa using hb
  induction mem with
  | nil =>
    unfold Memory.bind
    split_ifs <;> simp [List.lookup, hba]
  | cons d rest ih =>
    unfold Memory.bind
    split_ifs with h1 h2 h3 h4
    · rfl
    · simp [List.lookup, hba]
    · simp [List.lookup, ← h3, hba]
    · simp [List.lookup, ← h3, hba]
    · simp only [List.lookup, ih]

theorem Memory.read_bind_same {mem : Memory} (h : Memory.wf mem = true) (a : BitVec 9) (v : Byte) :
    Memory.read (Memory.bind mem a.toNat v) a = v :=
  Memory.getD_lookup_bind_same ((Memory.wf_iff mem).mp h).1 a.toNat v

theorem Memory.read_bind_other (mem : Memory) {a b : BitVec 9} (v : Byte) (hab : b ≠ a) :
    Memory.read (Memory.bind mem a.toNat v) b = Memory.read mem b := by
  rw [Memory.read, Memory.lookup_bind_other mem v fun hn => hab (BitVec.eq_of_toNat_eq hn), Memory.read]

end Sys2Proof.Machine
end

