-- ==== Sys2Proof/Laws/State.lean ====
section
/-! SUPPORT. The small lemmas of the state's updates: one per field per update, true by rfl. -/

namespace Sys2Proof.Machine

@[simp] theorem State.setPhase_phase (s : State) (p : Phase) : (s.setPhase p).phase = phaseBits p := rfl
@[simp] theorem State.setPhase_m (s : State) (p : Phase) : (s.setPhase p).m = s.m := rfl
@[simp] theorem State.setPhase_todo (s : State) (p : Phase) : (s.setPhase p).todo = s.todo := rfl
@[simp] theorem State.setPhase_opt (s : State) (p : Phase) : (s.setPhase p).opt = s.opt := rfl
@[simp] theorem State.setPhase_rx (s : State) (p : Phase) : (s.setPhase p).rx = s.rx := rfl
@[simp] theorem State.setPhase_hostAcks (s : State) (p : Phase) : (s.setPhase p).hostAcks = s.hostAcks := rfl
@[simp] theorem State.setPhase_startCheckPassed (s : State) (p : Phase) : (s.setPhase p).startCheckPassed = s.startCheckPassed := rfl
@[simp] theorem State.setPhase_out (s : State) (p : Phase) : (s.setPhase p).out = s.out := rfl
@[simp] theorem State.setPhase_diag (s : State) (p : Phase) : (s.setPhase p).diag = s.diag := rfl
@[simp] theorem State.setPhase_inPos (s : State) (p : Phase) : (s.setPhase p).inPos = s.inPos := rfl
@[simp] theorem State.setPhase_rom (s : State) (p : Phase) : (s.setPhase p).rom = s.rom := rfl
@[simp] theorem State.setPhase_par (s : State) (p : Phase) : (s.setPhase p).par = s.par := rfl
@[simp] theorem State.setPhase_env (s : State) (p : Phase) : (s.setPhase p).env = s.env := rfl
@[simp] theorem State.setPhase_freeDraws (s : State) (p : Phase) : (s.setPhase p).freeDraws = s.freeDraws := rfl

@[simp] theorem State.setMod_phase (s : State) (r : ModReg) (v : Bool) : (s.setMod r v).phase = s.phase := rfl
@[simp] theorem State.setMod_m (s : State) (r : ModReg) (v : Bool) : (s.setMod r v).m = s.m.set r v := rfl
@[simp] theorem State.setMod_todo (s : State) (r : ModReg) (v : Bool) : (s.setMod r v).todo = s.todo := rfl
@[simp] theorem State.setMod_opt (s : State) (r : ModReg) (v : Bool) : (s.setMod r v).opt = s.opt := rfl
@[simp] theorem State.setMod_rx (s : State) (r : ModReg) (v : Bool) : (s.setMod r v).rx = s.rx := rfl
@[simp] theorem State.setMod_hostAcks (s : State) (r : ModReg) (v : Bool) : (s.setMod r v).hostAcks = s.hostAcks := rfl
@[simp] theorem State.setMod_startCheckPassed (s : State) (r : ModReg) (v : Bool) : (s.setMod r v).startCheckPassed = s.startCheckPassed := rfl
@[simp] theorem State.setMod_out (s : State) (r : ModReg) (v : Bool) : (s.setMod r v).out = s.out := rfl
@[simp] theorem State.setMod_diag (s : State) (r : ModReg) (v : Bool) : (s.setMod r v).diag = s.diag := rfl
@[simp] theorem State.setMod_inPos (s : State) (r : ModReg) (v : Bool) : (s.setMod r v).inPos = s.inPos := rfl
@[simp] theorem State.setMod_rom (s : State) (r : ModReg) (v : Bool) : (s.setMod r v).rom = s.rom := rfl
@[simp] theorem State.setMod_par (s : State) (r : ModReg) (v : Bool) : (s.setMod r v).par = s.par := rfl
@[simp] theorem State.setMod_env (s : State) (r : ModReg) (v : Bool) : (s.setMod r v).env = s.env := rfl
@[simp] theorem State.setMod_freeDraws (s : State) (r : ModReg) (v : Bool) : (s.setMod r v).freeDraws = s.freeDraws := rfl

@[simp] theorem State.consume_phase (s : State) : (s.consume).phase = s.phase := rfl
@[simp] theorem State.consume_m (s : State) : (s.consume).m = s.m := rfl
@[simp] theorem State.consume_todo (s : State) : (s.consume).todo = s.todo := rfl
@[simp] theorem State.consume_opt (s : State) : (s.consume).opt = s.opt := rfl
@[simp] theorem State.consume_rx (s : State) : (s.consume).rx = { s.rx with buffer := s.rx.buffer.tail } := rfl
@[simp] theorem State.consume_hostAcks (s : State) : (s.consume).hostAcks = s.hostAcks := rfl
@[simp] theorem State.consume_startCheckPassed (s : State) : (s.consume).startCheckPassed = s.startCheckPassed := rfl
@[simp] theorem State.consume_out (s : State) : (s.consume).out = s.out := rfl
@[simp] theorem State.consume_diag (s : State) : (s.consume).diag = s.diag := rfl
@[simp] theorem State.consume_inPos (s : State) : (s.consume).inPos = s.inPos + 1 := rfl
@[simp] theorem State.consume_rom (s : State) : (s.consume).rom = s.rom := rfl
@[simp] theorem State.consume_par (s : State) : (s.consume).par = s.par := rfl
@[simp] theorem State.consume_env (s : State) : (s.consume).env = s.env := rfl
@[simp] theorem State.consume_freeDraws (s : State) : (s.consume).freeDraws = s.freeDraws := rfl

@[simp] theorem State.reinitialize_phase (s : State) : (s.reinitialize).phase = s.phase := rfl
@[simp] theorem State.reinitialize_m (s : State) : (s.reinitialize).m = s.m := rfl
@[simp] theorem State.reinitialize_todo (s : State) : (s.reinitialize).todo = s.todo := rfl
@[simp] theorem State.reinitialize_opt (s : State) : (s.reinitialize).opt = s.opt := rfl
@[simp] theorem State.reinitialize_rx (s : State) : (s.reinitialize).rx = { s.rx with status := 0, buffer := keptBytes s.freeDraws 0 s.rx.buffer } := rfl
@[simp] theorem State.reinitialize_hostAcks (s : State) : (s.reinitialize).hostAcks = s.hostAcks := rfl
@[simp] theorem State.reinitialize_startCheckPassed (s : State) : (s.reinitialize).startCheckPassed = s.startCheckPassed := rfl
@[simp] theorem State.reinitialize_out (s : State) : (s.reinitialize).out = s.out := rfl
@[simp] theorem State.reinitialize_diag (s : State) : (s.reinitialize).diag = s.diag := rfl
@[simp] theorem State.reinitialize_inPos (s : State) : (s.reinitialize).inPos = s.inPos := rfl
@[simp] theorem State.reinitialize_rom (s : State) : (s.reinitialize).rom = s.rom := rfl
@[simp] theorem State.reinitialize_par (s : State) : (s.reinitialize).par = s.par := rfl
@[simp] theorem State.reinitialize_env (s : State) : (s.reinitialize).env = s.env := rfl
@[simp] theorem State.reinitialize_freeDraws (s : State) : (s.reinitialize).freeDraws = s.freeDraws + 1 := rfl

@[simp] theorem Modifiers.get_LS (m : Modifiers) : m.get .LS = m.ls := rfl
@[simp] theorem Modifiers.get_RS (m : Modifiers) : m.get .RS = m.rs := rfl
@[simp] theorem Modifiers.get_CT (m : Modifiers) : m.get .CT = m.ct := rfl
@[simp] theorem Modifiers.get_CL (m : Modifiers) : m.get .CL = m.cl := rfl
@[simp] theorem Modifiers.set_LS (m : Modifiers) (v : Bool) : m.set .LS v = { m with ls := v } := rfl
@[simp] theorem Modifiers.set_RS (m : Modifiers) (v : Bool) : m.set .RS v = { m with rs := v } := rfl
@[simp] theorem Modifiers.set_CT (m : Modifiers) (v : Bool) : m.set .CT v = { m with ct := v } := rfl
@[simp] theorem Modifiers.set_CL (m : Modifiers) (v : Bool) : m.set .CL v = { m with cl := v } := rfl

end Sys2Proof.Machine
end

