-- ==== Sys2Proof/Laws/Ops.lean ====
section
/-! SUPPORT. One lemma per shared operation that says once what it can do. -/

namespace Sys2Proof.Machine

@[simp] theorem phaseOfBits_phaseBits (p : Phase) : phaseOfBits (phaseBits p) = some p := by cases p <;> rfl

theorem phaseBits_of_phaseOfBits (v : BitVec 4) (p : Phase) (h : phaseOfBits v = some p) : v = phaseBits p := by
  revert h; revert v; cases p <;> decide

theorem phaseBits_injective {p q : Phase} (h : phaseBits p = phaseBits q) : p = q := by
  have := congrArg phaseOfBits h
  simpa using this

/-- The encodings that stand for no phase are 12 to 15 (10_state.md R25). -/
theorem phaseOfBits_eq_none_iff (v : BitVec 4) : phaseOfBits v = none ↔ 12 ≤ v.toNat := by
  revert v; decide

/-- `runActions` touches the phase, DIAG and the rest of the step, and nothing else. -/
theorem runActions_frame (acts : List Action) (s : State) :
    runActions acts s = { s with phase := (runActions acts s).phase, todo := (runActions acts s).todo
                                 diag := (runActions acts s).diag } := by
  induction acts generalizing s with
  | nil => rfl
  | cons a rest ih =>
    cases a with
    | tx b => rfl
    | diag e => rw [runActions, ih]
    | enter p => rw [runActions, ih]; rfl

@[simp] theorem runActions_nil (s : State) : runActions [] s = { s with todo := [] } := rfl
@[simp] theorem runActions_tx (b : Byte) (rest : List Action) (s : State) :
    runActions (.tx b :: rest) s = { s with todo := .tx b :: rest } := rfl
@[simp] theorem runActions_diag (e : DiagEvent) (rest : List Action) (s : State) :
    runActions (.diag e :: rest) s = runActions rest { s with diag := s.diag ++ [e] } := rfl
@[simp] theorem runActions_enter (p : Phase) (rest : List Action) (s : State) :
    runActions (.enter p :: rest) s = runActions rest (s.setPhase p) := rfl

@[simp] theorem runActions_out (acts : List Action) (s : State) : (runActions acts s).out = s.out := by
  rw [runActions_frame]
@[simp] theorem runActions_m (acts : List Action) (s : State) : (runActions acts s).m = s.m := by
  rw [runActions_frame]
@[simp] theorem runActions_rom (acts : List Action) (s : State) : (runActions acts s).rom = s.rom := by
  rw [runActions_frame]
@[simp] theorem runActions_par (acts : List Action) (s : State) : (runActions acts s).par = s.par := by
  rw [runActions_frame]
@[simp] theorem runActions_rx (acts : List Action) (s : State) : (runActions acts s).rx = s.rx := by
  rw [runActions_frame]
@[simp] theorem runActions_inPos (acts : List Action) (s : State) : (runActions acts s).inPos = s.inPos := by
  rw [runActions_frame]

/-- `runActions` does not read what the step owed before. -/
theorem runActions_todo_irrelevant (acts l : List Action) (s : State) :
    runActions acts { s with todo := l } = runActions acts s := by
  induction acts generalizing s with
  | nil => rfl
  | cons a rest ih =>
    cases a with
    | tx b => rfl
    | diag e => exact ih { s with diag := s.diag ++ [e] }
    | enter p => exact ih (s.setPhase p)

@[simp] theorem State.owed_eq (s : State) : s.owed = txBytes s.todo := rfl

/-- The bytes owed after a list of primitives is started are the list's, in order (20_memory.md R53, R65). -/
@[simp] theorem runActions_owed (acts : List Action) (s : State) : txBytes (runActions acts s).todo = txBytes acts := by
  induction acts generalizing s with
  | nil => rfl
  | cons a rest ih =>
    cases a with
    | tx b => rfl
    | diag e => exact ih _
    | enter p => exact ih _

/-- What is left of a list of primitives once started is nothing or has a `Tx` at its head. -/
theorem runActions_todo (acts : List Action) (s : State) :
    (runActions acts s).todo = [] ∨ ∃ b rest, (runActions acts s).todo = .tx b :: rest := by
  induction acts generalizing s with
  | nil => exact .inl rfl
  | cons a rest ih =>
    cases a with
    | tx b => exact .inr ⟨b, rest, rfl⟩
    | diag e => exact ih _
    | enter p => exact ih _

/-- Started and then acknowledged, a list of primitives has its whole effect (60_exceptions.md R288). -/
theorem runActions_settle (acts : List Action) (s : State) :
    (runActions acts s).settle = appliedAll acts { s with todo := [] } := by
  induction acts generalizing s with
  | nil => rfl
  | cons a rest ih =>
    cases a with
    | tx b => rfl
    | diag e => exact ih _
    | enter p => exact ih _

/-- With nothing owed, `perform` starts the list at once. -/
theorem perform_of_todo_nil {s : State} (h : s.todo = []) (acts : List Action) :
    s.perform acts = runActions acts s := by simp [State.perform, h]

/-- An acknowledgment appends its byte and comes to what the step was to come to. -/
theorem acknowledge_settle (s : State) (b : Byte) (rest : List Action) (h : s.todo = .tx b :: rest) :
    (s.acknowledge b rest).settle = s.settle := by
  rw [State.acknowledge, runActions_settle, State.settle, h]; rfl

/-- How a unit is shown to complete: it starts a list of primitives whose whole effect is known. -/
theorem completesWith_of_runActions {i : Instr} {s s₀ : State} {acts : List Action} {m' : Modifiers}
    {bytes : List Byte} {events : List DiagEvent} (h : exec i s = .next (runActions acts s₀)) (hout : s₀.out = s.out)
    (heff : appliedAll acts { s₀ with todo := [] } =
      { s with phase := phaseBits .idle, m := m', out := s.out ++ bytes, diag := s.diag ++ events }) :
    CompletesWith i s m' bytes events :=
  ⟨_, h, by simp [hout], by rw [runActions_settle, heff]⟩

/-- The environment's events touch its ports only (20_memory.md R68). -/
theorem applyEvents_frame (es : List EnvEvent) (s : State) :
    applyEvents es s = { s with opt := (applyEvents es s).opt, rx := (applyEvents es s).rx
                                hostAcks := (applyEvents es s).hostAcks } := by
  induction es generalizing s with
  | nil => rfl
  | cons e rest ih =>
    rw [applyEvents, ih]
    cases e <;> rfl

@[simp] theorem envTick_of_env_nil {s : State} (h : s.env = []) : s.envTick = s := by simp [State.envTick, h]

/-- `keptBytes` deletes some, none or all (93_implementation_defined.md U4). -/
theorem keptBytes_sublist (draw position : Nat) (bytes : List Byte) :
    (keptBytes draw position bytes).Sublist bytes := by
  induction bytes generalizing position with
  | nil => exact List.Sublist.refl _
  | cons b rest ih =>
    unfold keptBytes
    split
    · exact (ih _).cons_cons b
    · exact (ih _).cons b

end Sys2Proof.Machine
end

