-- ==== Sys2Proof/Laws/PerInstr.lean ====
section
/-! SUPPORT. The per-instruction families named in LAWS.json. -/

namespace Sys2Proof.Laws

/-- How many bytes a unit's format has (30_encoding.md R80): S and M one, B and XM two, XB three, P eight. -/
def formatBytes (i : Instr) : Nat :=
  match i with
  | .pause => 8
  | i => 1 + i.isExtended.toNat + i.isBreak.toNat

/-- Under every KEYMAP the unit's encoding has as many bytes as its format. -/
def EncodingLength.Statement (i : Instr) : Prop := ∀ km : KeyMap, (encode km i).length = formatBytes i

theorem EncodingLength.spFA : EncodingLength.Statement .spFA := fun _ => rfl
theorem EncodingLength.spAA : EncodingLength.Statement .spAA := fun _ => rfl
theorem EncodingLength.spEE : EncodingLength.Statement .spEE := fun _ => rfl
theorem EncodingLength.spFE : EncodingLength.Statement .spFE := fun _ => rfl
theorem EncodingLength.sp00 : EncodingLength.Statement .sp00 := fun _ => rfl
theorem EncodingLength.spFF : EncodingLength.Statement .spFF := fun _ => rfl
theorem EncodingLength.pause : EncodingLength.Statement .pause := fun _ => rfl
theorem EncodingLength.numlockM : EncodingLength.Statement .numlockM := fun _ => rfl
theorem EncodingLength.numlockB : EncodingLength.Statement .numlockB := fun _ => rfl
theorem EncodingLength.scrlockM : EncodingLength.Statement .scrlockM := fun _ => rfl
theorem EncodingLength.scrlockB : EncodingLength.Statement .scrlockB := fun _ => rfl
theorem EncodingLength.lshiftM : EncodingLength.Statement .lshiftM := fun _ => rfl
theorem EncodingLength.lshiftB : EncodingLength.Statement .lshiftB := fun _ => rfl
theorem EncodingLength.rshiftM : EncodingLength.Statement .rshiftM := fun _ => rfl
theorem EncodingLength.rshiftB : EncodingLength.Statement .rshiftB := fun _ => rfl
theorem EncodingLength.ctrlM : EncodingLength.Statement .ctrlM := fun _ => rfl
theorem EncodingLength.ctrlB : EncodingLength.Statement .ctrlB := fun _ => rfl
theorem EncodingLength.capsM : EncodingLength.Statement .capsM := fun _ => rfl
theorem EncodingLength.capsB : EncodingLength.Statement .capsB := fun _ => rfl
theorem EncodingLength.altM : EncodingLength.Statement .altM := fun _ => rfl
theorem EncodingLength.altB : EncodingLength.Statement .altB := fun _ => rfl
theorem EncodingLength.f1M : EncodingLength.Statement .f1M := fun _ => rfl
theorem EncodingLength.f1B : EncodingLength.Statement .f1B := fun _ => rfl
theorem EncodingLength.f2M : EncodingLength.Statement .f2M := fun _ => rfl
theorem EncodingLength.f2B : EncodingLength.Statement .f2B := fun _ => rfl
theorem EncodingLength.f3M : EncodingLength.Statement .f3M := fun _ => rfl
theorem EncodingLength.f3B : EncodingLength.Statement .f3B := fun _ => rfl
theorem EncodingLength.f4M : EncodingLength.Statement .f4M := fun _ => rfl
theorem EncodingLength.f4B : EncodingLength.Statement .f4B := fun _ => rfl
theorem EncodingLength.f5M : EncodingLength.Statement .f5M := fun _ => rfl
theorem EncodingLength.f5B : EncodingLength.Statement .f5B := fun _ => rfl
theorem EncodingLength.f6M : EncodingLength.Statement .f6M := fun _ => rfl
theorem EncodingLength.f6B : EncodingLength.Statement .f6B := fun _ => rfl
theorem EncodingLength.f7M : EncodingLength.Statement .f7M := fun _ => rfl
theorem EncodingLength.f7B : EncodingLength.Statement .f7B := fun _ => rfl
theorem EncodingLength.f8M : EncodingLength.Statement .f8M := fun _ => rfl
theorem EncodingLength.f8B : EncodingLength.Statement .f8B := fun _ => rfl
theorem EncodingLength.f9M : EncodingLength.Statement .f9M := fun _ => rfl
theorem EncodingLength.f9B : EncodingLength.Statement .f9B := fun _ => rfl
theorem EncodingLength.f10M : EncodingLength.Statement .f10M := fun _ => rfl
theorem EncodingLength.f10B : EncodingLength.Statement .f10B := fun _ => rfl
theorem EncodingLength.f11M : EncodingLength.Statement .f11M := fun _ => rfl
theorem EncodingLength.f11B : EncodingLength.Statement .f11B := fun _ => rfl
theorem EncodingLength.f12M : EncodingLength.Statement .f12M := fun _ => rfl
theorem EncodingLength.f12B : EncodingLength.Statement .f12B := fun _ => rfl
theorem EncodingLength.kp0M : EncodingLength.Statement .kp0M := fun _ => rfl
theorem EncodingLength.kp0B : EncodingLength.Statement .kp0B := fun _ => rfl
theorem EncodingLength.kp1M : EncodingLength.Statement .kp1M := fun _ => rfl
theorem EncodingLength.kp1B : EncodingLength.Statement .kp1B := fun _ => rfl
theorem EncodingLength.kp2M : EncodingLength.Statement .kp2M := fun _ => rfl
theorem EncodingLength.kp2B : EncodingLength.Statement .kp2B := fun _ => rfl
theorem EncodingLength.kp3M : EncodingLength.Statement .kp3M := fun _ => rfl
theorem EncodingLength.kp3B : EncodingLength.Statement .kp3B := fun _ => rfl
theorem EncodingLength.kp4M : EncodingLength.Statement .kp4M := fun _ => rfl
theorem EncodingLength.kp4B : EncodingLength.Statement .kp4B := fun _ => rfl
theorem EncodingLength.kp5M : EncodingLength.Statement .kp5M := fun _ => rfl
theorem EncodingLength.kp5B : EncodingLength.Statement .kp5B := fun _ => rfl
theorem EncodingLength.kp6M : EncodingLength.Statement .kp6M := fun _ => rfl
theorem EncodingLength.kp6B : EncodingLength.Statement .kp6B := fun _ => rfl
theorem EncodingLength.kp7M : EncodingLength.Statement .kp7M := fun _ => rfl
theorem EncodingLength.kp7B : EncodingLength.Statement .kp7B := fun _ => rfl
theorem EncodingLength.kp8M : EncodingLength.Statement .kp8M := fun _ => rfl
theorem EncodingLength.kp8B : EncodingLength.Statement .kp8B := fun _ => rfl
theorem EncodingLength.kp9M : EncodingLength.Statement .kp9M := fun _ => rfl
theorem EncodingLength.kp9B : EncodingLength.Statement .kp9B := fun _ => rfl
theorem EncodingLength.kpdotM : EncodingLength.Statement .kpdotM := fun _ => rfl
theorem EncodingLength.kpdotB : EncodingLength.Statement .kpdotB := fun _ => rfl
theorem EncodingLength.kpstarM : EncodingLength.Statement .kpstarM := fun _ => rfl
theorem EncodingLength.kpstarB : EncodingLength.Statement .kpstarB := fun _ => rfl
theorem EncodingLength.kpminusM : EncodingLength.Statement .kpminusM := fun _ => rfl
theorem EncodingLength.kpminusB : EncodingLength.Statement .kpminusB := fun _ => rfl
theorem EncodingLength.kpplusM : EncodingLength.Statement .kpplusM := fun _ => rfl
theorem EncodingLength.kpplusB : EncodingLength.Statement .kpplusB := fun _ => rfl
theorem EncodingLength.upM : EncodingLength.Statement .upM := fun _ => rfl
theorem EncodingLength.upB : EncodingLength.Statement .upB := fun _ => rfl
theorem EncodingLength.downM : EncodingLength.Statement .downM := fun _ => rfl
theorem EncodingLength.downB : EncodingLength.Statement .downB := fun _ => rfl
theorem EncodingLength.rightM : EncodingLength.Statement .rightM := fun _ => rfl
theorem EncodingLength.rightB : EncodingLength.Statement .rightB := fun _ => rfl
theorem EncodingLength.leftM : EncodingLength.Statement .leftM := fun _ => rfl
theorem EncodingLength.leftB : EncodingLength.Statement .leftB := fun _ => rfl
theorem EncodingLength.insM : EncodingLength.Statement .insM := fun _ => rfl
theorem EncodingLength.insB : EncodingLength.Statement .insB := fun _ => rfl
theorem EncodingLength.delM : EncodingLength.Statement .delM := fun _ => rfl
theorem EncodingLength.delB : EncodingLength.Statement .delB := fun _ => rfl
theorem EncodingLength.homeM : EncodingLength.Statement .homeM := fun _ => rfl
theorem EncodingLength.homeB : EncodingLength.Statement .homeB := fun _ => rfl
theorem EncodingLength.endM : EncodingLength.Statement .endM := fun _ => rfl
theorem EncodingLength.endB : EncodingLength.Statement .endB := fun _ => rfl
theorem EncodingLength.pgupM : EncodingLength.Statement .pgupM := fun _ => rfl
theorem EncodingLength.pgupB : EncodingLength.Statement .pgupB := fun _ => rfl
theorem EncodingLength.pgdnM : EncodingLength.Statement .pgdnM := fun _ => rfl
theorem EncodingLength.pgdnB : EncodingLength.Statement .pgdnB := fun _ => rfl
theorem EncodingLength.kpenterM : EncodingLength.Statement .kpenterM := fun _ => rfl
theorem EncodingLength.kpenterB : EncodingLength.Statement .kpenterB := fun _ => rfl
theorem EncodingLength.kpslashM : EncodingLength.Statement .kpslashM := fun _ => rfl
theorem EncodingLength.kpslashB : EncodingLength.Statement .kpslashB := fun _ => rfl
theorem EncodingLength.raltM : EncodingLength.Statement .raltM := fun _ => rfl
theorem EncodingLength.raltB : EncodingLength.Statement .raltB := fun _ => rfl
theorem EncodingLength.rctrlM : EncodingLength.Statement .rctrlM := fun _ => rfl
theorem EncodingLength.rctrlB : EncodingLength.Statement .rctrlB := fun _ => rfl
theorem EncodingLength.lwinM : EncodingLength.Statement .lwinM := fun _ => rfl
theorem EncodingLength.lwinB : EncodingLength.Statement .lwinB := fun _ => rfl
theorem EncodingLength.rwinM : EncodingLength.Statement .rwinM := fun _ => rfl
theorem EncodingLength.rwinB : EncodingLength.Statement .rwinB := fun _ => rfl
theorem EncodingLength.menuM : EncodingLength.Statement .menuM := fun _ => rfl
theorem EncodingLength.menuB : EncodingLength.Statement .menuB := fun _ => rfl
theorem EncodingLength.prtsc1M : EncodingLength.Statement .prtsc1M := fun _ => rfl
theorem EncodingLength.prtsc1B : EncodingLength.Statement .prtsc1B := fun _ => rfl
theorem EncodingLength.prtsc2M : EncodingLength.Statement .prtsc2M := fun _ => rfl
theorem EncodingLength.prtsc2B : EncodingLength.Statement .prtsc2B := fun _ => rfl
theorem EncodingLength.keyM (code : Byte) : EncodingLength.Statement (.keyM code) := fun _ => rfl
theorem EncodingLength.keyB (code : Byte) : EncodingLength.Statement (.keyB code) := fun _ => rfl
theorem EncodingLength.xkeyM (code : Byte) : EncodingLength.Statement (.xkeyM code) := fun _ => rfl
theorem EncodingLength.xkeyB (code : Byte) : EncodingLength.Statement (.xkeyB code) := fun _ => rfl

end Sys2Proof.Laws
end

