-- ==== Sys2Proof/Laws/Step.lean ====
section
/-! SUPPORT. What a step can do, said once. -/

namespace Sys2Proof.Machine

/-- `runSteps` is the host's run of the machine. -/
theorem run_eq_runSteps (k : Nat) (s : State) : Host.Core.run Sys2Proof.core k s = runSteps k s := by
  induction k generalizing s with
  | zero => rfl
  | succ k ih =>
    rw [runSteps]
    refine Eq.trans (Host.Core.run.eq_2 Sys2Proof.core s k) ?_
    rw [show Sys2Proof.core.step s = step s from rfl]
    cases step s with
    | next t => exact ih t
    | fault r => rfl
    | refused r => rfl

theorem runSteps_zero (s : State) : runSteps 0 s = .next s := rfl

/-- One step of a run that goes on. -/
theorem runSteps_succ {k : Nat} {s t : State} (h : step s = .next t) : runSteps (k + 1) s = runSteps k t := by
  rw [runSteps, h]

/-- What the environment does in a step touches its own ports only (20_memory.md R68). -/
theorem envTick_ports (s : State) : s.envTick = { s with
    opt := s.envTick.opt, rx := s.envTick.rx, hostAcks := s.envTick.hostAcks, env := s.envTick.env } := by
  unfold State.envTick
  split
  · rfl
  · rw [applyEvents_frame]

@[simp] theorem envTick_phase (s : State) : s.envTick.phase = s.phase := by rw [envTick_ports]
@[simp] theorem envTick_m (s : State) : s.envTick.m = s.m := by rw [envTick_ports]
@[simp] theorem envTick_todo (s : State) : s.envTick.todo = s.todo := by rw [envTick_ports]
@[simp] theorem envTick_out (s : State) : s.envTick.out = s.out := by rw [envTick_ports]
@[simp] theorem envTick_diag (s : State) : s.envTick.diag = s.diag := by rw [envTick_ports]
@[simp] theorem envTick_inPos (s : State) : s.envTick.inPos = s.inPos := by rw [envTick_ports]
@[simp] theorem envTick_rom (s : State) : s.envTick.rom = s.rom := by rw [envTick_ports]
@[simp] theorem envTick_par (s : State) : s.envTick.par = s.par := by rw [envTick_ports]
@[simp] theorem envTick_startCheckPassed (s : State) : s.envTick.startCheckPassed = s.startCheckPassed := by
  rw [envTick_ports]
@[simp] theorem envTick_freeDraws (s : State) : s.envTick.freeDraws = s.freeDraws := by rw [envTick_ports]

/-- In a legal phase with an unfinished step, a step goes on with it. -/
theorem step_of_todo_cons {s : State} {p : Phase} {a : Action} {rest : List Action} (hp : s.phase = phaseBits p)
    (ht : s.todo = a :: rest) : step s = .next (oweStep a rest s.envTick) := by
  simp [step, blockStep, hp, ht]

/-- In phase BOOT with nothing owed, a step is the Boot step. -/
theorem step_of_boot {s : State} (hp : s.phase = phaseBits .boot) (ht : s.todo = []) :
    step s = .next (bootStep s.envTick) := by
  simp [step, blockStep, hp, ht, freeStep]

/-- In any other legal phase with nothing owed, a step is one poll of RawKeySource. -/
theorem step_of_poll {s : State} {p : Phase} (hb : p ≠ .boot) (hp : s.phase = phaseBits p) (ht : s.todo = []) :
    step s = pollStep p s.envTick := by
  cases p <;> simp_all [step, blockStep, freeStep]

/-- A poll that a byte answers reads it. -/
theorem pollStep_some {p : Phase} {s : State} {b : Byte} (h : s.rx.tryRead = some b) :
    pollStep p s = byteStep p b s.consume := by simp [pollStep, h]

/-- A poll that nothing answers recovers or waits. -/
theorem pollStep_none {p : Phase} {s : State} (h : s.rx.tryRead = none) : pollStep p s = .next (waitStep s) := by
  simp [pollStep, h]

/-- "try read" answers a byte exactly when RawKeySource does not stall and the byte is its first. -/
theorem tryRead_eq_some {r : RawKeySource} {b : Byte} :
    r.tryRead = some b ↔ r.stalled = false ∧ ∃ rest, r.buffer = b :: rest := by
  unfold RawKeySource.tryRead
  cases r.stalled <;> cases r.buffer <;> simp

/-- A state that holds a byte and waits, with an empty script, reads that byte. -/
theorem step_of_holds {s : State} {p : Phase} {b : Byte} {rest : List Byte} (hb : p ≠ .boot)
    (h : Holds s p (b :: rest)) : step s = byteStep p b (s.taken 1 rest) := by
  obtain ⟨⟨hp, ht, he⟩, hs, hr⟩ := h
  rw [step_of_poll hb hp ht, envTick_of_env_nil he, pollStep_some (tryRead_eq_some.mpr ⟨hs, rest, hr⟩)]
  simp [State.consume, State.taken, hr]

/-- Every meaning answers a next state that only starts primitives, on the state with at most `m` written. -/
theorem exec_next (i : Instr) (s : State) :
    ∃ acts m', exec i s = .next (({ s with m := m' } : State).perform acts) := by
  cases i <;> simp only [exec] <;>
  first
  | exact ⟨_, s.m, rfl⟩
  | exact ⟨_, _, rfl⟩
  | (simp only [execCtrlM, execCtrlB, execCapsM, execCapsB, controlKey, capsKey, execKeyM, execKeyB, ordinaryKey,
        execKp0M, execKp0B, execKp1M, execKp1B, execKp2M, execKp2B, execKp3M, execKp3B, execKp4M, execKp4B,
        execKp5M, execKp5B, execKp6M, execKp6B, execKp7M, execKp7B, execKp8M, execKp8B, execKp9M, execKp9B,
        execKpdotM, execKpdotB, execKpstarM, execKpstarB, execKpminusM, execKpminusB, execKpplusM, execKpplusB,
        keypadDigit, keypadKey]
     split
     · exact ⟨_, _, rfl⟩
     · exact ⟨_, _, rfl⟩)

/-- A step in a legal phase answers a next state (60_exceptions.md R280: no process termination). -/
theorem step_next {s : State} {p : Phase} (hp : s.phase = phaseBits p) : ∃ t, step s = .next t := by
  cases ht : s.todo with
  | cons a rest => exact ⟨_, step_of_todo_cons hp ht⟩
  | nil =>
    by_cases hb : p = .boot
    · exact ⟨_, step_of_boot (hb ▸ hp) ht⟩
    · rw [step_of_poll hb hp ht]
      unfold pollStep byteStep abortPause
      split
      · split
        · obtain ⟨_, _, h⟩ := exec_next _ _
          exact ⟨_, h⟩
        · exact ⟨_, rfl⟩
        · exact ⟨_, rfl⟩
        · exact ⟨_, rfl⟩
      · exact ⟨_, rfl⟩

end Sys2Proof.Machine
end

