-- ==== Sys2Proof/Tests/Slice0.lean ====
section
/-! SUPPORT. The author's own tests: the checks of well-formedness refuse, the words of spec/opcode_table.json decode,
single steps agree with spec/95_test_vectors.md (each theorem names its vector), and the hypotheses of every statement
of Certificates/Slice0/Obligations.lean can be met (`witness_<its name>`). -/

namespace Sys2Proof.Tests

open Sys2Proof.Machine

/-! ## Well-formedness: every check refuses something -/

theorem test_wf_refuses_special_byte_as_make : (Instr.keyM 0xFA).wf KeyMap.scanSet2 = false := by decide
theorem test_wf_refuses_prefix_byte_as_make : (Instr.keyM 0xE0).wf KeyMap.scanSet2 = false := by decide
theorem test_wf_refuses_named_code_as_make : (Instr.keyM 0x83).wf KeyMap.scanSet2 = false := by decide
theorem test_wf_refuses_named_code_as_break : (Instr.keyB 0x12).wf KeyMap.scanSet2 = false := by decide
theorem test_wf_admits_special_byte_as_break : (Instr.keyB 0xFA).wf KeyMap.scanSet2 = true := by decide
theorem test_wf_refuses_release_byte_as_extended_make : (Instr.xkeyM 0xF0).wf KeyMap.scanSet2 = false := by decide
theorem test_wf_refuses_named_extended_make : (Instr.xkeyM 0x75).wf KeyMap.scanSet2 = false := by decide
theorem test_wf_refuses_named_extended_break : (Instr.xkeyB 0x7C).wf KeyMap.scanSet2 = false := by decide
theorem test_keymap_refuses_equal_extended_codes : { KeyMap.scanSet2 with xcUp := 0x72 }.wf = false := by decide
theorem test_keymap_refuses_equal_plain_codes : { KeyMap.scanSet2 with kp0 := 0x12 }.wf = false := by decide
theorem test_keymap_refuses_special_byte : { KeyMap.scanSet2 with f1 := 0xAA }.wf = false := by decide

/-! ## Decoding: every constructor, from the opcode table's words (first byte lowest) -/

theorem test_decode_SP_FA_to_LSHIFT_M :
    decodeTableWord 8 0xFA = some .spFA ∧
    decodeTableWord 8 0xAA = some .spAA ∧
    decodeTableWord 8 0xEE = some .spEE ∧
    decodeTableWord 8 0xFE = some .spFE ∧
    decodeTableWord 8 0x00 = some .sp00 ∧
    decodeTableWord 8 0xFF = some .spFF ∧
    decodeTableWord 64 0x77F014F0E17714E1 = some .pause ∧
    decodeTableWord 8 0x77 = some .numlockM ∧
    decodeTableWord 16 0x77F0 = some .numlockB ∧
    decodeTableWord 8 0x7E = some .scrlockM ∧
    decodeTableWord 16 0x7EF0 = some .scrlockB ∧
    decodeTableWord 8 0x12 = some .lshiftM := by decide

theorem test_decode_LSHIFT_B_to_F2_M :
    decodeTableWord 16 0x12F0 = some .lshiftB ∧
    decodeTableWord 8 0x59 = some .rshiftM ∧
    decodeTableWord 16 0x59F0 = some .rshiftB ∧
    decodeTableWord 8 0x14 = some .ctrlM ∧
    decodeTableWord 16 0x14F0 = some .ctrlB ∧
    decodeTableWord 8 0x58 = some .capsM ∧
    decodeTableWord 16 0x58F0 = some .capsB ∧
    decodeTableWord 8 0x11 = some .altM ∧
    decodeTableWord 16 0x11F0 = some .altB ∧
    decodeTableWord 8 0x05 = some .f1M ∧
    decodeTableWord 16 0x05F0 = some .f1B ∧
    decodeTableWord 8 0x06 = some .f2M := by decide

theorem test_decode_F2_B_to_F8_M :
    decodeTableWord 16 0x06F0 = some .f2B ∧
    decodeTableWord 8 0x04 = some .f3M ∧
    decodeTableWord 16 0x04F0 = some .f3B ∧
    decodeTableWord 8 0x0C = some .f4M ∧
    decodeTableWord 16 0x0CF0 = some .f4B ∧
    decodeTableWord 8 0x03 = some .f5M ∧
    decodeTableWord 16 0x03F0 = some .f5B ∧
    decodeTableWord 8 0x0B = some .f6M ∧
    decodeTableWord 16 0x0BF0 = some .f6B ∧
    decodeTableWord 8 0x83 = some .f7M ∧
    decodeTableWord 16 0x83F0 = some .f7B ∧
    decodeTableWord 8 0x0A = some .f8M := by decide

theorem test_decode_F8_B_to_KP1_M :
    decodeTableWord 16 0x0AF0 = some .f8B ∧
    decodeTableWord 8 0x01 = some .f9M ∧
    decodeTableWord 16 0x01F0 = some .f9B ∧
    decodeTableWord 8 0x09 = some .f10M ∧
    decodeTableWord 16 0x09F0 = some .f10B ∧
    decodeTableWord 8 0x78 = some .f11M ∧
    decodeTableWord 16 0x78F0 = some .f11B ∧
    decodeTableWord 8 0x07 = some .f12M ∧
    decodeTableWord 16 0x07F0 = some .f12B ∧
    decodeTableWord 8 0x70 = some .kp0M ∧
    decodeTableWord 16 0x70F0 = some .kp0B ∧
    decodeTableWord 8 0x69 = some .kp1M := by decide

theorem test_decode_KP1_B_to_KP7_M :
    decodeTableWord 16 0x69F0 = some .kp1B ∧
    decodeTableWord 8 0x72 = some .kp2M ∧
    decodeTableWord 16 0x72F0 = some .kp2B ∧
    decodeTableWord 8 0x7A = some .kp3M ∧
    decodeTableWord 16 0x7AF0 = some .kp3B ∧
    decodeTableWord 8 0x6B = some .kp4M ∧
    decodeTableWord 16 0x6BF0 = some .kp4B ∧
    decodeTableWord 8 0x73 = some .kp5M ∧
    decodeTableWord 16 0x73F0 = some .kp5B ∧
    decodeTableWord 8 0x74 = some .kp6M ∧
    decodeTableWord 16 0x74F0 = some .kp6B ∧
    decodeTableWord 8 0x6C = some .kp7M := by decide

theorem test_decode_KP7_B_to_KPPLUS_M :
    decodeTableWord 16 0x6CF0 = some .kp7B ∧
    decodeTableWord 8 0x75 = some .kp8M ∧
    decodeTableWord 16 0x75F0 = some .kp8B ∧
    decodeTableWord 8 0x7D = some .kp9M ∧
    decodeTableWord 16 0x7DF0 = some .kp9B ∧
    decodeTableWord 8 0x71 = some .kpdotM ∧
    decodeTableWord 16 0x71F0 = some .kpdotB ∧
    decodeTableWord 8 0x7C = some .kpstarM ∧
    decodeTableWord 16 0x7CF0 = some .kpstarB ∧
    decodeTableWord 8 0x7B = some .kpminusM ∧
    decodeTableWord 16 0x7BF0 = some .kpminusB ∧
    decodeTableWord 8 0x79 = some .kpplusM := by decide

theorem test_decode_KPPLUS_B_to_DEL_M :
    decodeTableWord 16 0x79F0 = some .kpplusB ∧
    decodeTableWord 16 0x75E0 = some .upM ∧
    decodeTableWord 24 0x75F0E0 = some .upB ∧
    decodeTableWord 16 0x72E0 = some .downM ∧
    decodeTableWord 24 0x72F0E0 = some .downB ∧
    decodeTableWord 16 0x74E0 = some .rightM ∧
    decodeTableWord 24 0x74F0E0 = some .rightB ∧
    decodeTableWord 16 0x6BE0 = some .leftM ∧
    decodeTableWord 24 0x6BF0E0 = some .leftB ∧
    decodeTableWord 16 0x70E0 = some .insM ∧
    decodeTableWord 24 0x70F0E0 = some .insB ∧
    decodeTableWord 16 0x71E0 = some .delM := by decide

theorem test_decode_DEL_B_to_KPSLASH_M :
    decodeTableWord 24 0x71F0E0 = some .delB ∧
    decodeTableWord 16 0x6CE0 = some .homeM ∧
    decodeTableWord 24 0x6CF0E0 = some .homeB ∧
    decodeTableWord 16 0x69E0 = some .endM ∧
    decodeTableWord 24 0x69F0E0 = some .endB ∧
    decodeTableWord 16 0x7DE0 = some .pgupM ∧
    decodeTableWord 24 0x7DF0E0 = some .pgupB ∧
    decodeTableWord 16 0x7AE0 = some .pgdnM ∧
    decodeTableWord 24 0x7AF0E0 = some .pgdnB ∧
    decodeTableWord 16 0x5AE0 = some .kpenterM ∧
    decodeTableWord 24 0x5AF0E0 = some .kpenterB ∧
    decodeTableWord 16 0x4AE0 = some .kpslashM := by decide

theorem test_decode_KPSLASH_B_to_PRTSC1_M :
    decodeTableWord 24 0x4AF0E0 = some .kpslashB ∧
    decodeTableWord 16 0x11E0 = some .raltM ∧
    decodeTableWord 24 0x11F0E0 = some .raltB ∧
    decodeTableWord 16 0x14E0 = some .rctrlM ∧
    decodeTableWord 24 0x14F0E0 = some .rctrlB ∧
    decodeTableWord 16 0x1FE0 = some .lwinM ∧
    decodeTableWord 24 0x1FF0E0 = some .lwinB ∧
    decodeTableWord 16 0x27E0 = some .rwinM ∧
    decodeTableWord 24 0x27F0E0 = some .rwinB ∧
    decodeTableWord 16 0x2FE0 = some .menuM ∧
    decodeTableWord 24 0x2FF0E0 = some .menuB ∧
    decodeTableWord 16 0x12E0 = some .prtsc1M := by decide

theorem test_decode_PRTSC1_B_to_XKEY_B :
    decodeTableWord 24 0x12F0E0 = some .prtsc1B ∧
    decodeTableWord 16 0x7CE0 = some .prtsc2M ∧
    decodeTableWord 24 0x7CF0E0 = some .prtsc2B ∧
    decodeTableWord 8 0x1C = some (.keyM 0x1C) ∧
    decodeTableWord 8 0x84 = some (.keyM 0x84) ∧
    decodeTableWord 16 0x1CF0 = some (.keyB 0x1C) ∧
    decodeTableWord 16 0xF0F0 = some (.keyB 0xF0) ∧
    decodeTableWord 16 0x37E0 = some (.xkeyM 0x37) ∧
    decodeTableWord 16 0xE0E0 = some (.xkeyM 0xE0) ∧
    decodeTableWord 24 0x83F0E0 = some (.xkeyB 0x83) ∧
    decodeTableWord 24 0xF0F0E0 = some (.xkeyB 0xF0) := by decide

theorem test_decode_refuses_wrong_pause_byte : decodeTableWord 64 0x76F014F0E17714E1 = none := by decide
theorem test_encode_of_longest_formats :
    encode KeyMap.scanSet2 .pause = [0xE1, 0x14, 0x77, 0xE1, 0xF0, 0x14, 0xF0, 0x77] ∧
    encode KeyMap.scanSet2 .prtsc2B = [0xE0, 0xF0, 0x7C] := by decide

/-! ## Single steps, from spec/95_test_vectors.md -/

/-- The fixture table TT of 95_test_vectors.md section 2, every address it gives 0 reading as 0. -/
def tableTT : Memory :=
  [(0x000, 0x7E)] ++
  [(0x014, 0x59), (0x015, 0x59), (0x016, 0x59), (0x017, 0x59), (0x048, 0x58), (0x049, 0x58), (0x04A, 0x58), (0x04B, 0x58)] ++
  [(0x058, 0x31), (0x059, 0x21), (0x070, 0x61), (0x071, 0x41), (0x072, 0x01), (0x073, 0x01), (0x0A4, 0x20), (0x0A5, 0x20)] ++
  [(0x0A6, 0x80), (0x0A7, 0x80), (0x0C8, 0xE2), (0x0C9, 0x42), (0x0CA, 0x02), (0x0CB, 0x02), (0x128, 0x2F), (0x129, 0x3F)] ++
  [(0x168, 0x0D), (0x169, 0x0D), (0x16A, 0x0D), (0x16B, 0x0D), (0x1A4, 0x00), (0x1AC, 0x00), (0x1B0, 0x00), (0x1C0, 0x00)] ++
  [(0x1C4, 0x00), (0x1C8, 0x00), (0x1CD, 0x35), (0x1D0, 0x00), (0x1D4, 0x00), (0x1DC, 0x5A), (0x1DD, 0x5A), (0x1DE, 0x5A)] ++
  [(0x1DF, 0x5A), (0x1E5, 0x2B), (0x1E8, 0x00), (0x1EC, 0x00), (0x1F1, 0x2A), (0x1F4, 0x00)]

/-- The modifiers written as four digits in the order LS RS CT CL. -/
def mods (digits : Nat) : Modifiers := ⟨digits.testBit 3, digits.testBit 2, digits.testBit 1, digits.testBit 0⟩

/-- Phase `p` with modifiers `m`, options AK and SW, table TT; RawKeySource holds `bytes`. -/
def holding (p : Phase) (m : Nat) (ak sw : Bool) (bytes : List Byte) : State :=
  { State.reset with
    phase := phaseBits p, m := mods m, opt := { ak := ak, sw := sw }, rom := tableTT
    rx := { State.reset.rx with buffer := bytes } }

/-- After one step: the phase, the modifiers, the bytes owed to the host, the diagnostic events. -/
def stepped (s : State) : Option (BitVec 4 × Modifiers × List Byte × List DiagEvent) :=
  match step s with
  | .next t => some (t.phase, t.m, t.owed, t.diag)
  | .fault _ => none
  | .refused _ => none

theorem test_vector_D1 : stepped (holding .idle 0b0000 false false [0xFA]) =
    some (phaseBits .idle, mods 0b0000, [], [.special 0xFA]) := by decide
theorem test_vector_D2 : stepped (holding .idle 0b1011 false false [0xAA]) =
    some (phaseBits .idle, mods 0b1011, [0xAA], []) := by decide
theorem test_vector_D5 : stepped (holding .rel 0b0000 false false [0xAA]) =
    some (phaseBits .idle, mods 0b0000, [], [.unknown 0xAA true]) := by decide
theorem test_vector_D6 : stepped (holding .ext 0b0000 false false [0xAA]) =
    some (phaseBits .idle, mods 0b0000, [], [.xunknown 0xAA false]) := by decide
theorem test_vector_D7 : stepped (holding .idle 0b0100 false false [0xF0]) =
    some (phaseBits .rel, mods 0b0100, [], []) := by decide
theorem test_vector_D8 : stepped (holding .idle 0b0000 false false [0xE0]) =
    some (phaseBits .ext, mods 0b0000, [], []) := by decide
theorem test_vector_D9_second_byte : stepped (holding .ext 0b0000 false false [0xF0]) =
    some (phaseBits .extRel, mods 0b0000, [], []) := by decide
theorem test_vector_D10 : stepped (holding .rel 0b0000 false false [0xF0]) =
    some (phaseBits .idle, mods 0b0000, [], [.unknown 0xF0 true]) := by decide
theorem test_vector_D12 : stepped (holding .extRel 0b0000 false false [0xF0]) =
    some (phaseBits .idle, mods 0b0000, [], [.xunknown 0xF0 true]) := by decide
theorem test_vector_D15 : stepped (holding .rel 0b0000 false false [0x00]) =
    some (phaseBits .idle, mods 0b0000, [], []) := by decide
theorem test_vector_P1_last_byte : stepped (holding .p7 0b1011 true true [0x77]) =
    some (phaseBits .idle, mods 0b1011, [], [.pause]) := by decide
theorem test_vector_P2_fourth_byte : stepped (holding .p3 0b0000 false false [0xE1]) =
    some (phaseBits .p4, mods 0b0000, [], []) := by decide
theorem test_vector_P3 : stepped (holding .p1 0b0000 false false [0x1C]) =
    some (phaseBits .idle, mods 0b0000, [], [.pauseAbort 1 0x1C]) := by decide
theorem test_vector_P6 : stepped (holding .p7 0b0000 false false [0x76]) =
    some (phaseBits .idle, mods 0b0000, [], [.pauseAbort 7 0x76]) := by decide
theorem test_vector_X1 : stepped (holding .ext 0b1011 false true [0x75]) =
    some (phaseBits .idle, mods 0b1011, [0x1B, 0x41], []) := by decide
theorem test_vector_X4 : stepped (holding .ext 0b1000 true false [0x6B]) =
    some (phaseBits .idle, mods 0b1000, [0x1B, 0x44], []) := by decide
theorem test_vector_X5 : stepped (holding .extRel 0b0000 true false [0x72]) =
    some (phaseBits .idle, mods 0b0000, [], []) := by decide
theorem test_vector_X6 : stepped (holding .ext 0b0000 true false [0x70]) =
    some (phaseBits .idle, mods 0b0000, [], [.xedit 0x70 false]) := by decide
theorem test_vector_X7 : stepped (holding .extRel 0b0000 false false [0x71]) =
    some (phaseBits .idle, mods 0b0000, [], [.xedit 0x71 true]) := by decide
theorem test_vector_X10 : stepped (holding .ext 0b0010 false false [0x5A]) =
    some (phaseBits .idle, mods 0b0010, [0x0D], []) := by decide
theorem test_vector_X11 : stepped (holding .ext 0b0000 true false [0x5A]) =
    some (phaseBits .idle, mods 0b0000, [0x1B, 0x3F, 0x4D], []) := by decide
theorem test_vector_X13 : stepped (holding .ext 0b1000 false false [0x4A]) =
    some (phaseBits .idle, mods 0b1000, [0x2F], []) := by decide
theorem test_vector_X14 : stepped (holding .ext 0b0000 true false [0x4A]) =
    some (phaseBits .idle, mods 0b0000, [0x1B, 0x50], []) := by decide
theorem test_vector_X17 : stepped (holding .extRel 0b0010 false true [0x14]) =
    some (phaseBits .idle, mods 0b0010, [], [.xmod 0x14 true]) := by decide
theorem test_vector_X18 : stepped (holding .ext 0b0000 false true [0x14]) =
    some (phaseBits .idle, mods 0b0000, [], [.xmod 0x14 false]) := by decide
theorem test_vector_X19_break : stepped (holding .extRel 0b0000 false false [0x1F]) =
    some (phaseBits .idle, mods 0b0000, [], []) := by decide
theorem test_vector_X19_menu : stepped (holding .ext 0b0000 false false [0x2F]) =
    some (phaseBits .idle, mods 0b0000, [], [.winmenu 0x2F]) := by decide
theorem test_vector_X21 : stepped (holding .extRel 0b1000 true false [0x12]) =
    some (phaseBits .idle, mods 0b1000, [], [.prtsc 0x12 true]) := by decide
theorem test_vector_X22 : stepped (holding .ext 0b0000 false false [0x37]) =
    some (phaseBits .idle, mods 0b0000, [], [.xunknown 0x37 false]) := by decide
theorem test_vector_M2 : stepped (holding .idle 0b0001 false false [0x7E]) =
    some (phaseBits .idle, mods 0b0001, [], [.lockkey 0x7E]) := by decide
theorem test_vector_M17 : stepped (holding .idle 0b0000 false false [0x77]) =
    some (phaseBits .idle, mods 0b0000, [], [.lockkey 0x77]) := by decide
theorem test_vector_M3 : stepped (holding .idle 0b0000 false false [0x12]) =
    some (phaseBits .idle, mods 0b1000, [], []) := by decide
theorem test_vector_M4 : stepped (holding .rel 0b1100 false false [0x12]) =
    some (phaseBits .idle, mods 0b0100, [], []) := by decide
theorem test_vector_M7 : stepped (holding .idle 0b0000 false false [0x59]) =
    some (phaseBits .idle, mods 0b0100, [], []) := by decide
theorem test_vector_M8 : stepped (holding .idle 0b0000 false false [0x14]) =
    some (phaseBits .idle, mods 0b0010, [], []) := by decide
theorem test_vector_M9_break : stepped (holding .rel 0b0001 false true [0x14]) =
    some (phaseBits .idle, mods 0b0001, [], []) := by decide
theorem test_vector_M9_make : stepped (holding .idle 0b0000 false true [0x14]) =
    some (phaseBits .idle, mods 0b0001, [], []) := by decide
theorem test_vector_M11_break : stepped (holding .rel 0b0010 false true [0x58]) =
    some (phaseBits .idle, mods 0b0000, [], []) := by decide
theorem test_vector_S2 : stepped (holding .idle 0b0001 false false [0x58]) =
    some (phaseBits .idle, mods 0b0000, [], []) := by decide
theorem test_vector_M12 : stepped (holding .idle 0b0000 false false [0x11]) =
    some (phaseBits .idle, mods 0b0000, [], []) := by decide
theorem test_vector_M13 : stepped (holding .idle 0b0000 false false [0x05]) =
    some (phaseBits .idle, mods 0b0000, [], [.fkey 0x05]) := by decide
theorem test_vector_M14_break : stepped (holding .rel 0b0000 false false [0x83]) =
    some (phaseBits .idle, mods 0b0000, [], []) := by decide
theorem test_vector_M15 : stepped (holding .idle 0b0000 false false [0x84]) =
    some (phaseBits .idle, mods 0b0000, [], [.unknown 0x84 false]) := by decide
theorem test_vector_K1 : stepped (holding .idle 0b1011 true false [0x73]) =
    some (phaseBits .idle, mods 0b1011, [0x1B, 0x3F, 0x75], []) := by decide
theorem test_vector_S5_mode_off : stepped (holding .idle 0b0000 false false [0x73]) =
    some (phaseBits .idle, mods 0b0000, [0x35], []) := by decide
theorem test_vector_K4 : stepped (holding .rel 0b0010 false false [0x73]) =
    some (phaseBits .idle, mods 0b0010, [], [.unknown 0x73 true]) := by decide
theorem test_vector_K5 : stepped (holding .rel 0b0010 true false [0x73]) =
    some (phaseBits .idle, mods 0b0010, [], []) := by decide
theorem test_vector_K8_first : stepped (holding .idle 0b0000 true false [0x70]) =
    some (phaseBits .idle, mods 0b0000, [0x1B, 0x3F, 0x70], []) := by decide
theorem test_vector_K9_last : stepped (holding .idle 0b0000 true false [0x71]) =
    some (phaseBits .idle, mods 0b0000, [0x1B, 0x3F, 0x7A], []) := by decide
theorem test_vector_K10 : stepped (holding .idle 0b0000 true false [0x7C]) =
    some (phaseBits .idle, mods 0b0000, [0x1B, 0x51], []) := by decide
theorem test_vector_K11 : stepped (holding .idle 0b0000 true false [0x7B]) =
    some (phaseBits .idle, mods 0b0000, [0x1B, 0x52], []) := by decide
theorem test_vector_K12 : stepped (holding .idle 0b0000 true false [0x79]) =
    some (phaseBits .idle, mods 0b0000, [], []) := by decide
theorem test_vector_K13 : stepped (holding .idle 0b0000 false false [0x79]) =
    some (phaseBits .idle, mods 0b0000, [0x2B], []) := by decide
theorem test_vector_K14 : stepped (holding .idle 0b0000 false false [0x7B]) =
    some (phaseBits .idle, mods 0b0000, [], [.unknown 0x7B false]) := by decide
theorem test_vector_A4 : stepped (holding .idle 0b1100 false false [0x1C]) =
    some (phaseBits .idle, mods 0b1100, [0x41], []) := by decide
theorem test_vector_A6 : stepped (holding .idle 0b1010 false false [0x1C]) =
    some (phaseBits .idle, mods 0b1010, [0x01], []) := by decide
theorem test_vector_A7 : stepped (holding .idle 0b0001 false false [0x1C]) =
    some (phaseBits .idle, mods 0b0001, [0x41], []) := by decide
theorem test_vector_A10 : stepped (holding .rel 0b0000 false false [0x1C]) =
    some (phaseBits .idle, mods 0b0000, [], []) := by decide
theorem test_vector_A13 : stepped (holding .idle 0b0010 false false [0x16]) =
    some (phaseBits .idle, mods 0b0010, [], [.unknown 0x16 false]) := by decide
theorem test_vector_A16 : stepped (holding .idle 0b0001 false false [0x32]) =
    some (phaseBits .idle, mods 0b0001, [0x42], []) := by decide
theorem test_vector_A17 : stepped (holding .idle 0b0010 false false [0x29]) =
    some (phaseBits .idle, mods 0b0010, [0x00], []) := by decide
theorem test_vector_A19 : stepped (holding .idle 0b0000 true false [0x5A]) =
    some (phaseBits .idle, mods 0b0000, [0x0D], []) := by decide
theorem test_vector_A20 : stepped (holding .idle 0b1000 false false [0x4A]) =
    some (phaseBits .idle, mods 0b1000, [0x3F], []) := by decide

/-- Vector B1: the Boot step owes the first two banner bytes, then the firmware version. -/
theorem test_vector_B1 : stepped State.reset =
    some (phaseBits .boot, mods 0b0000, [0xCB, 0x42, Config.fwVersion], []) := rfl

/-- Vector B3: Recover keeps the phase and the modifiers. -/
theorem test_vector_B3 : stepped { holding .ext 0b0100 false false [] with rx := ⟨[], false, 1⟩ } =
    some (phaseBits .ext, mods 0b0100, [], [.recover]) := by decide

/-- Vector B4: a waiting byte is taken before the error status is looked at. -/
theorem test_vector_B4 : stepped { holding .idle 0b0000 false false [] with rx := ⟨[0x1C], false, 1⟩ } =
    some (phaseBits .idle, mods 0b0000, [0x61], []) := by decide

/-- Vector B5: the host acknowledges one byte; the block owes the rest and takes no raw byte. -/
theorem test_vector_B5 :
    stepped { holding .idle 0b0000 true false [0x1C] with todo := [.tx 0x1B, .tx 0x3F, .tx 0x75] } =
      some (phaseBits .idle, mods 0b0000, [0x3F, 0x75], []) := by decide

/-- 10_state.md R25, 93_implementation_defined.md U6. -/
theorem test_reserved_phase_faults :
    stepped { State.reset with phase := 12 } = none ∧ stepped { State.reset with phase := 15 } = none := by decide

/-- A unit of an opcode-table word is the first thing run after reset. -/
theorem test_withFetchWord_runs_up : stepped (State.reset.withFetchWord 16 0x75E0) =
    some (phaseBits .idle, mods 0b0000, [0x1B, 0x41], []) := by decide

/-- 20_memory.md R60 (c): before any table is bound, keypad 5 reads as '5', and an entry the spec leaves open as 0. -/
theorem test_unlisted_entries :
    Memory.read [] 0x1CC = 0x35 ∧ Memory.read [] 0x070 = 0x00 ∧ Memory.wf (Memory.bind [] 0x070 0x61) = true := by
  decide

/-! ## The hypotheses of the statements can be met -/

/-- Phase IDLE, nothing owed, nothing waiting, table TT. -/
def resting : State := holding .idle 0b0000 false false []

/-- `resting` in application mode. -/
def applicationMode : State := holding .idle 0b0000 true false []

/-- `resting` with the swap option. -/
def swapped : State := holding .idle 0b0000 false true []

theorem holding_holds (p : Phase) (m : Nat) (ak sw : Bool) (bytes : List Byte) :
    Holds (holding p m ak sw bytes) p bytes := ⟨⟨rfl, rfl, rfl⟩, rfl, rfl⟩

theorem witness_BootStepSendsTheBanner :
    WaitsIn State.reset .boot ∧ State.reset.startCheckPassed = true ∧ State.reset.hostAcks = true ∧
    WaitsIn { State.reset with hostAcks := false } .boot := ⟨⟨rfl, rfl, rfl⟩, rfl, rfl, ⟨rfl, rfl, rfl⟩⟩

/-- In BOOT with the check failed, a key delivered, a status bit raised; and with the check passed. -/
def heldInReset : State :=
  { State.reset with startCheckPassed := false, env := [[.deliver 0x1C, .raiseStatus 1], [.hostAcks false]] }

theorem witness_FailedStartCheckHoldsTheBlockInReset :
    heldInReset.phase = phaseBits .boot ∧ heldInReset.todo = [] ∧ heldInReset.startCheckPassed = false ∧
    State.reset.phase = phaseBits .boot ∧ State.reset.todo = [] ∧ State.reset.startCheckPassed = true :=
  ⟨rfl, rfl, rfl, rfl, rfl, rfl⟩

theorem witness_NoByteIsConsumedInBoot :
    { holding .boot 0b0000 false false [0x1C] with todo := bannerActions }.phase = phaseBits .boot := rfl

theorem witness_SpecialUnitsOnlyLog : resting.todo = [] := rfl
theorem witness_SelfTestByteIsAcknowledged : resting.todo = [] := rfl

theorem witness_PrefixBytesMoveOnlyThePhase :
    Holds (holding .idle 0b0000 false false [0xF0, 0x12]) .idle (0xF0 :: [0x12]) ∧
    Holds (holding .idle 0b0000 false false [0xE0]) .idle (0xE0 :: []) ∧
    Holds (holding .ext 0b0000 false false [0xF0]) .ext (0xF0 :: []) ∧
    Holds (holding .idle 0b0000 false false [0xE1]) .idle (0xE1 :: []) :=
  ⟨holding_holds .., holding_holds .., holding_holds .., holding_holds ..⟩

theorem witness_PauseUnitRunsThroughItsPhases :
    Holds (holding .idle 0b1011 true true [0xE1, 0x14, 0x77, 0xE1, 0xF0, 0x14, 0xF0, 0x77, 0x1C]) .idle
      ([0xE1, 0x14, 0x77, 0xE1, 0xF0, 0x14, 0xF0, 0x77] ++ [0x1C]) := holding_holds ..

theorem witness_PauseMismatchAbandonsTheUnit : ∀ r ∈ pausePhases,
    Holds (holding r.2 0b0000 false false [0x00]) r.2 (0x00 :: []) ∧ (0x00 : Byte) ≠ pauseSeq r.1 := by
  intro r hr
  exact ⟨holding_holds .., by revert hr; revert r; decide⟩

theorem witness_ArrowKeysSendTheirLetters : resting.todo = [] ∧ applicationMode.todo = [] := ⟨rfl, rfl⟩
theorem witness_EditingAndPrintScreenKeysOnlyLog : resting.todo = [] := rfl
theorem witness_KeypadEnterAndSlashFollowTheOption :
    resting.todo = [] ∧ resting.opt.ak = false ∧ applicationMode.todo = [] ∧ applicationMode.opt.ak = true :=
  ⟨rfl, rfl, rfl, rfl⟩
theorem witness_RightAltAndRightControlLeaveModifiers : swapped.todo = [] := rfl
theorem witness_WindowsAndMenuKeysLogOnPressOnly : resting.todo = [] := rfl

theorem witness_OtherExtendedCodesAreUnknown :
    resting.todo = [] ∧ (0x37 : Byte) ∉ resting.par.keymap.extendedCodes ∧
    (0xF0 : Byte) ∉ resting.par.keymap.extendedCodes ∧ (0x37 : Byte) ≠ 0xF0 := by decide

theorem witness_ExtendedUnitsIgnoreModifiersSwapAndRom :
    Instr.upM.isExtended = true ∧ Instr.upB.isExtended = true ∧ Instr.upB.isBreak = true ∧
    Instr.upB ≠ .kpenterM ∧ Instr.upB ≠ .kpslashM ∧ resting.todo = [] := by decide

theorem witness_LockKeysAreSwallowed : resting.todo = [] := rfl
theorem witness_ShiftKeysWriteTheirOwnBit : resting.todo = [] ∧ swapped.todo = [] := ⟨rfl, rfl⟩
theorem witness_ControlAndCapsLockKeys :
    resting.todo = [] ∧ resting.opt.sw = false ∧ swapped.todo = [] ∧ swapped.opt.sw = true := ⟨rfl, rfl, rfl, rfl⟩
theorem witness_AltKeyChangesNothing : resting.todo = [] := rfl
theorem witness_FunctionKeysAreSwallowed : resting.todo = [] := rfl
theorem witness_SwapExchangesControlAndCapsLock : resting.opt.sw = false := rfl
theorem witness_KeypadDigitsInApplicationMode : applicationMode.todo = [] ∧ applicationMode.opt.ak = true := ⟨rfl, rfl⟩
theorem witness_KeypadOperatorsInApplicationMode :
    applicationMode.todo = [] ∧ applicationMode.opt.ak = true := ⟨rfl, rfl⟩
theorem witness_KeypadKeysAreOrdinaryWithModeOff : resting.opt.ak = false := rfl
theorem witness_KeypadNumLockVariantIsSwallowed :
    applicationMode.todo = [] ∧ applicationMode.opt.ak = true ∧ KeyMap.scanSet2.kpNumLk = 0x77 := ⟨rfl, rfl, rfl⟩

/-- A zero entry, a non-zero one, and the codes on either side of 0x80. -/
theorem witness_OrdinaryKeysSendTheirTableEntry :
    resting.todo = [] ∧ ¬(resting.opt.ak = true ∧ (0x1C : Byte) = resting.par.keymap.kpNumLk) ∧
    Memory.read resting.rom (BitVec.ofNat 9 (0x1C * 4 + 0)) ≠ 0x00 ∧
    Memory.read resting.rom (BitVec.ofNat 9 (0x7F * 4 + 0)) = 0x00 ∧
    ¬(resting.opt.ak = true ∧ (0x80 : Byte) = resting.par.keymap.kpNumLk) := by decide

theorem witness_RomAddressIsRowMajor : (0x7F : Byte).toNat < 0x80 ∧ 0x80 ≤ (0x80 : Byte).toNat := by decide

theorem witness_EntryBitSevenIsNeverSent :
    resting.todo = [] ∧ ¬(resting.opt.ak = true ∧ (0x1C : Byte) = resting.par.keymap.kpNumLk) ∧
    tableEntry resting.rom 0x1C (shiftIndex resting.m) ≠ 0x00 ∧
    tableEntry [(0x070, 0xE1)] 0x1C (shiftIndex resting.m) =
      tableEntry resting.rom 0x1C (shiftIndex resting.m) ||| 0x80 ∧
    tableEntry resting.rom 0x29 (shiftIndex (mods 0b0010)) = 0x80 := by decide

theorem witness_ModifierRegistersAndShiftIndex : ModReg.LS ≠ ModReg.RS := by decide

theorem witness_OnlyModifierUnitsWriteModifiers :
    Instr.altM ∉ modifierUnits ∧ Instr.ctrlM ≠ .lshiftM ∧ Instr.ctrlM ≠ .lshiftB ∧ Instr.ctrlM ≠ .rshiftM ∧
    Instr.ctrlM ≠ .rshiftB ∧ Instr.rshiftB ∈ [Instr.lshiftM, .lshiftB, .rshiftM, .rshiftB] := by decide

/-- What `stepped` shows of a step that is taken. -/
theorem exists_of_stepped {s : State} {v : BitVec 4 × Modifiers × List Byte × List DiagEvent} (h : stepped s = some v) :
    ∃ t, step s = .next t ∧ (t.phase, t.m, t.owed, t.diag) = v := by
  unfold stepped at h
  split at h
  · exact ⟨_, ‹_›, Option.some.inj h⟩
  · exact absurd h (by simp)
  · exact absurd h (by simp)

theorem witness_ModifiersChangeOnlyWhenAModifierUnitCompletes :
    ∃ t, step (holding .idle 0b0000 false false [0x12]) = .next t ∧
      t.m ≠ (holding .idle 0b0000 false false [0x12]).m := by
  obtain ⟨t, h, hv⟩ := exists_of_stepped test_vector_M3
  refine ⟨t, h, ?_⟩
  rw [show t.m = mods 0b1000 from congrArg (fun v => v.2.1) hv]
  decide

theorem witness_BreakUnitsSendNothing : Instr.kp0B.isBreak = true ∧ resting.todo = [] := ⟨rfl, rfl⟩

/-- A unit that owes three bytes exists, so the clause about three bytes is about something. -/
theorem witness_UnitsSendOneByteOrAListedSequence : applicationMode.todo = [] ∧
    ∃ t, exec .kp5M applicationMode = .next t ∧ t.owed.length = 3 := ⟨rfl, _, rfl, rfl⟩

theorem witness_UnitsTouchOnlyPhaseModifiersAndStreams : resting.todo = [] := rfl

theorem witness_DecodeOfEncode :
    KeyMap.scanSet2.wf = true ∧ (Instr.keyM 0x1C).wf KeyMap.scanSet2 = true ∧ Instr.f7B.wf KeyMap.scanSet2 = true := by
  decide

theorem witness_EncodeOfDecode : decode KeyMap.scanSet2 [0xE0, 0xF0, 0x75, 0x1C] = .unit .upB [0x1C] := by decide

theorem witness_StepRunsTheDecodedUnit :
    (holding .ext 0b0000 false false [0x75]).phase = phaseBits .ext ∧
    (holding .ext 0b0000 false false [0x75]).todo = [] ∧
    (holding .ext 0b0000 false false [0x75]).envTick.rx.tryRead = some 0x75 ∧
    classify (holding .ext 0b0000 false false [0x75]).par.keymap .ext 0x75 = .unit .upM := by decide

theorem witness_UnitBytesRunTheUnit :
    resting.par.keymap.wf = true ∧ (Instr.xkeyB 0x83).wf resting.par.keymap = true ∧
    Holds (holding .idle 0b0000 false false [0xE0, 0xF0, 0x83, 0x1C]) .idle
      (encode resting.par.keymap (.xkeyB 0x83) ++ [0x1C]) := ⟨by decide, by decide, holding_holds ..⟩

theorem witness_MachineRefinesSpecStep :
    (Phase.p3 ≠ .boot ∧ (holding .p3 0b0000 false false [0xE1]).phase = phaseBits .p3 ∧
      (holding .p3 0b0000 false false [0xE1]).todo = [] ∧
      (holding .p3 0b0000 false false [0xE1]).envTick.rx.tryRead = some 0xE1) ∧
    State.reset.phase = phaseBits .boot ∧ (List.replicate 8 (0xE1 : Byte)).length = 8 := by decide

theorem witness_UnitsAgreeWithDispatchOrder : resting.todo = [] := rfl
theorem witness_DecoderReturnsToIdleWithinSevenBytes :
    Phase.p1 ≠ .boot ∧ ([0x14, 0x77, 0xE1, 0xF0, 0x14, 0xF0, 0x77] : List Byte).length = 7 := by decide

/-- A special byte, and a byte that completes no unit. -/
theorem witness_OptionsAreReadOnlyAtDispatch :
    Phase.idle ≠ .boot ∧ Holds (holding .idle 0b0000 false false [0xFF]) .idle (0xFF :: []) ∧
    (∀ i, classify resting.par.keymap .idle 0xFF = .unit i → i ∈ [.spFA, .spAA, .spEE, .spFE, .sp00, .spFF, .pause]) ∧
    (∀ i, classify resting.par.keymap .idle 0xF0 = .unit i → i ∈ [.spFA, .spAA, .spEE, .spFE, .sp00, .spFF, .pause]) := by
  refine ⟨by decide, holding_holds .., fun i h => ?_, fun i h => ?_⟩
  · rw [show classify resting.par.keymap .idle 0xFF = .unit .spFF from by decide] at h
    cases h
    decide
  · rw [show classify resting.par.keymap .idle 0xF0 = .awaiting .rel from by decide] at h
    cases h

theorem witness_InputIsConsumedInOrder :
    (holding .rel 0b0000 false false [0x12, 0x13]).envTick.rx.tryRead = some 0x12 ∧
    (holding .rel 0b0000 false false [0x12, 0x13]).todo = [] ∧
    { holding .idle 0b0000 false false [0x12] with todo := [.tx 0x41] }.todo ≠ [] := by decide

theorem witness_HostAcknowledgesOneByteAtATime :
    { resting with todo := [.tx 0x1B, .tx 0x41], hostAcks := false }.envTick.hostAcks = false ∧
    { resting with todo := [.tx 0x1B, .tx 0x41] }.envTick.hostAcks = true ∧
    { resting with todo := [.tx 0x1B, .tx 0x41] }.todo = .tx 0x1B :: [.tx 0x41] := by decide

theorem witness_OwedBytesCompleteAfterAsManyAcknowledgments :
    resting.phase = phaseBits .idle ∧ resting.env = [] ∧ resting.hostAcks = true ∧ resting.todo = [] ∧
    { resting with todo := [.tx 0x1B, .tx 0x41] }.todo = .tx 0x1B :: [.tx 0x41] := ⟨rfl, rfl, rfl, rfl, rfl⟩

theorem witness_PollWithoutAByteRecoversOrWaits :
    resting.envTick.rx.tryRead = none ∧ resting.envTick.rx.status = 0 ∧
    { resting with rx := ⟨[0x1C], true, 4⟩ }.envTick.rx.tryRead = none ∧
    { resting with rx := ⟨[0x1C], true, 4⟩ }.envTick.rx.status ≠ 0 := by decide

theorem witness_WaitingByteIsTakenBeforeTheErrorStatus :
    Holds { resting with rx := ⟨[0x1C], false, 1⟩ } .idle (0x1C :: []) := ⟨⟨rfl, rfl, rfl⟩, rfl, rfl⟩

theorem witness_EnvironmentCannotTouchTheBlock :
    { resting with env := [[.deliver 0x1C, .raiseStatus 1], []] }.env = [.deliver 0x1C, .raiseStatus 1] :: [[]] ∧
    { resting with rx := ⟨[], false, 4⟩ }.rx.status.testBit 2 = true := by decide

theorem witness_DiagnosticsNeverFeedBack : resting.phase = phaseBits .idle := rfl
theorem witness_RomAndParametersAreNeverWritten : resting.phase = phaseBits .idle := rfl
theorem witness_OnlyReservedPhaseEncodingsFault :
    12 ≤ { resting with phase := 12 }.phase.toNat ∧ { resting with phase := 11 }.phase.toNat < 12 := by decide

/-- A state of the invariant in the middle of a unit's output. -/
def sending : State :=
  { State.reset with phase := phaseBits .idle, out := banner ++ [0x1B], todo := [.tx 0x3F, .tx 0x75] }

theorem witness_EveryStepKeepsTheInvariant : BlockInvariant sending :=
  ⟨rfl, .inr ⟨⟨.idle, by decide, rfl⟩, ⟨[0x1B], rfl⟩, rfl, fun _ => rfl⟩⟩

theorem witness_RunsNeverStop : BlockInvariant sending := witness_EveryStepKeepsTheInvariant

theorem witness_RepeatedCapsLockMakesToggle :
    resting.opt.sw = false ∧
    Holds (holding .idle 0b0000 false false [0x58, 0x58, 0x58, 0x1C]) .idle (List.replicate 3 0x58 ++ [0x1C]) :=
  ⟨rfl, holding_holds ..⟩

end Sys2Proof.Tests
end

section
/-! PROOF. The step that reads a unit's last byte (00_scope.md R11; 20_memory.md R51): one lemma for the byte a poll
takes, one for a reading that completes a unit. -/

namespace Sys2Proof.Machine

/-- In phase BOOT the decoder reads nothing, so a byte that completes a unit was awaited in another phase. -/
theorem ne_boot_of_classify_unit {km : KeyMap} {p : Phase} {b : Byte} {i : Instr} (h : classify km p b = .unit i) :
    p ≠ .boot := by
  rintro rfl
  simp [classify] at h

/-- Whatever the script does in this step: with nothing owed, a byte that RawKeySource offers after the environment's
events is taken and read. `step_of_holds` is the case of an empty script. -/
theorem step_of_tryRead {s : State} {p : Phase} {b : Byte} (hb : p ≠ .boot) (hp : s.phase = phaseBits p)
    (ht : s.todo = []) (hr : s.envTick.rx.tryRead = some b) : step s = byteStep p b s.envTick.consume := by
  rw [step_of_poll hb hp ht, pollStep_some hr]

theorem byteStep_of_unit {s : State} {p : Phase} {b : Byte} {i : Instr}
    (h : classify s.par.keymap p b = .unit i) : byteStep p b s = exec i s := by
  simp [byteStep, h]

/-- Settles O41: the poll takes the byte, and neither the environment nor the removal of the byte touches the KEYMAP
under which it completes the unit. -/
theorem stepRunsTheDecodedUnit : Obligations.StepRunsTheDecodedUnit := by
  intro s p b i hphase htodo hread hunit
  have hkeymap : classify s.envTick.consume.par.keymap p b = .unit i := by simpa using hunit
  refine ⟨?_, by simpa using htodo, by simp⟩
  calc step s = byteStep p b s.envTick.consume :=
        step_of_tryRead (ne_boot_of_classify_unit hunit) hphase htodo hread
    _ = exec i s.envTick.consume := byteStep_of_unit hkeymap

end Sys2Proof.Machine
end

section
/-! PROOF. The registers, read and written: each modifier register by itself, the shift index, and the state after
reset (10_state.md R21, R22, R28, R37). -/

namespace Sys2Proof.Machine

theorem Modifiers.get_set_same (m : Modifiers) (r : ModReg) (v : Bool) : (m.set r v).get r = v := by
  cases r <;> rfl

theorem Modifiers.get_set_of_ne (m : Modifiers) {a b : ModReg} (v : Bool) (h : a ≠ b) :
    (m.set a v).get b = m.get b := by
  revert h
  cases a <;> cases b <;> simp

theorem shiftIndex_getLsbD_zero (m : Modifiers) : (shiftIndex m).getLsbD 0 = shift m := by
  rw [shiftIndex, BitVec.getLsbD_append]
  simp

theorem shiftIndex_getLsbD_one (m : Modifiers) : (shiftIndex m).getLsbD 1 = m.ct := by
  rw [shiftIndex, BitVec.getLsbD_append]
  simp

theorem shiftIndex_toNat (m : Modifiers) :
    (shiftIndex m).toNat = (if m.ls || m.rs then 1 else 0) ||| (if m.ct then 2 else 0) := by
  have hshift : shift m = (m.ls || m.rs) := rfl
  rw [shiftIndex, hshift, Modifiers.get_CT]
  generalize (m.ls || m.rs) = sh
  cases sh <;> cases m.ct <;> rfl

theorem shiftIndex_set_CL (m : Modifiers) (v : Bool) : shiftIndex (m.set .CL v) = shiftIndex m := rfl

/-- Settles O30. -/
theorem modifierRegistersAndShiftIndex : Obligations.ModifierRegistersAndShiftIndex := fun m =>
  ⟨shiftIndex_toNat m, rfl, shiftIndex_getLsbD_zero m, shiftIndex_getLsbD_one m, shiftIndex_set_CL m,
    fun a _ v => ⟨m.get_set_same a v, m.get_set_of_ne v⟩⟩

theorem modReset_get (r : ModReg) : modReset.get r = false := by cases r <;> rfl

/-- Settles O1. -/
theorem resetStateIsBootWithEmptyStreams : Obligations.ResetStateIsBootWithEmptyStreams :=
  ⟨rfl, rfl, rfl, rfl, rfl, modReset_get⟩

theorem starting_reset : Starting State.reset := ⟨rfl, .inl ⟨rfl, rfl⟩⟩

/-- Settles O56: the ROM's list is empty at reset, and the run is at its start. -/
theorem resetMeetsTheInvariant : Obligations.ResetMeetsTheInvariant := ⟨rfl, .inl starting_reset⟩

end Sys2Proof.Machine
end

section
/-! PROOF. The decoder's way back to IDLE (10_state.md R26): a measure of the phase that every byte lowers. -/

namespace Sys2Proof

/-- How many bytes the decoder still awaits in a phase, at most; none in IDLE, and none are read in BOOT. -/
def Phase.awaited : Phase → Nat
  | .boot | .idle => 0
  | .rel | .extRel | .p7 => 1
  | .ext | .p6 => 2
  | .p5 => 3
  | .p4 => 4
  | .p3 => 5
  | .p2 => 6
  | .p1 => 7

theorem Phase.awaited_le_seven (p : Phase) : p.awaited ≤ 7 := by cases p <;> decide

/-- Inside a unit a byte goes on to a phase that awaits fewer bytes, never to BOOT. -/
theorem nextPhase_awaits_less (km : KeyMap) {p : Phase} (b : Byte) (hboot : p ≠ .boot) (hidle : p ≠ .idle) :
    nextPhase km p b ≠ .boot ∧ (nextPhase km p b).awaited < p.awaited := by
  cases p with
  | boot => exact absurd rfl hboot
  | idle => exact absurd rfl hidle
  | rel | extRel => exact ⟨nofun, Nat.zero_lt_one⟩
  | ext =>
    simp only [nextPhase, classify]
    split_ifs <;> simp [Phase.awaited]
  | p1 | p2 | p3 | p4 | p5 | p6 | p7 =>
    simp only [nextPhase, classify, classifyPause]
    split_ifs <;> simp [Phase.awaited]

/-- Given as many bytes as the phase awaits at most, the decoder passes through IDLE. -/
theorem exists_take_foldl_nextPhase_eq_idle (km : KeyMap) (bytes : List Byte) (p : Phase) (hboot : p ≠ .boot)
    (hlen : p.awaited ≤ bytes.length) : ∃ k ≤ p.awaited, (bytes.take k).foldl (nextPhase km) p = .idle := by
  by_cases hidle : p = .idle
  · exact ⟨0, Nat.zero_le _, hidle⟩
  · induction bytes generalizing p with
    | nil =>
      have hless := (nextPhase_awaits_less km 0 hboot hidle).2
      simp only [List.length_nil] at hlen
      omega
    | cons b rest ih =>
      obtain ⟨hboot', hless⟩ := nextPhase_awaits_less km b hboot hidle
      simp only [List.length_cons] at hlen
      by_cases hidle' : nextPhase km p b = .idle
      · exact ⟨1, by omega, hidle'⟩
      · obtain ⟨k, hk, hfold⟩ := ih (nextPhase km p b) hboot' (by omega) hidle'
        exact ⟨k + 1, by omega, hfold⟩

/-- Settles O45, by induction on the bytes: each lowers the number of bytes awaited, which is at most 7. -/
theorem decoderReturnsToIdleWithinSevenBytes : Obligations.DecoderReturnsToIdleWithinSevenBytes := by
  intro km p bytes hboot hlen
  obtain ⟨k, hk, hfold⟩ :=
    exists_take_foldl_nextPhase_eq_idle km bytes p hboot (hlen ▸ p.awaited_le_seven)
  exact ⟨k, hk.trans p.awaited_le_seven, hfold⟩

end Sys2Proof
end

section
/-! PROOF. What every unit does, said once: it starts primitives that leave phase IDLE, on the state with the
modifiers that `modifiersAfter` gives (10_state.md R21, R23; 42_locks_modifiers_fkeys.md R195 to R198). -/

namespace Sys2Proof.Machine

@[simp] theorem perform_m (acts : List Action) (s : State) : (s.perform acts).m = s.m := runActions_m _ s

/-- `perform` touches the phase, DIAG and the rest of the step, and nothing else. -/
theorem perform_frame (acts : List Action) (s : State) :
    s.perform acts = { s with phase := (s.perform acts).phase, todo := (s.perform acts).todo
                              diag := (s.perform acts).diag } := runActions_frame _ s

theorem diag_prefix_runActions (acts : List Action) (s : State) : s.diag <+: (runActions acts s).diag := by
  induction acts generalizing s with
  | nil => exact List.prefix_rfl
  | cons a rest ih =>
    cases a with
    | tx b => exact List.prefix_rfl
    | diag e => exact (List.prefix_append s.diag [e]).trans (ih { s with diag := s.diag ++ [e] })
    | enter p => exact ih (s.setPhase p)

theorem diag_prefix_perform (acts : List Action) (s : State) : s.diag <+: (s.perform acts).diag :=
  diag_prefix_runActions _ s

/-- Sends and events only. -/
def WritesNoPhase (acts : List Action) : Prop := ∀ p, Action.enter p ∉ acts

/-- Once all is acknowledged, the phase is IDLE. -/
def LeavesIdle (acts : List Action) : Prop := ∀ s, (appliedAll acts s).phase = phaseBits .idle

theorem appliedAll_phase {acts : List Action} (h : WritesNoPhase acts) (s : State) :
    (appliedAll acts s).phase = s.phase := by
  induction acts generalizing s with
  | nil => rfl
  | cons a rest ih =>
    have hrest : WritesNoPhase rest := fun p hp => h p (List.mem_cons_of_mem a hp)
    rw [appliedAll, ih hrest]
    cases a with
    | tx b => rfl
    | diag e => rfl
    | enter p => exact absurd List.mem_cons_self (h p)

theorem leavesIdle_enter_cons {acts : List Action} (h : WritesNoPhase acts) : LeavesIdle (.enter .idle :: acts) :=
  fun s => appliedAll_phase h (s.setPhase .idle)

theorem writesNoPhase_nil : WritesNoPhase [] := fun _ => List.not_mem_nil

theorem writesNoPhase_tx (b : Byte) : WritesNoPhase [.tx b] := fun _ => by simp

theorem writesNoPhase_diag (e : DiagEvent) : WritesNoPhase [.diag e] := fun _ => by simp

theorem writesNoPhase_txEsc (cs : List Byte) : WritesNoPhase (txEsc cs) := fun _ => by simp [txEsc]

theorem writesNoPhase_onMake {acts : List Action} (release : Bool) (h : WritesNoPhase acts) :
    WritesNoPhase (onMake release acts) := by
  cases release with
  | false => exact h
  | true => exact writesNoPhase_nil

theorem writesNoPhase_asciiActions (rom : Memory) (m : Modifiers) (code : Byte) (release : Bool) :
    WritesNoPhase (asciiActions rom m code release) := by
  unfold asciiActions
  split_ifs
  · exact writesNoPhase_diag _
  · exact writesNoPhase_onMake release (writesNoPhase_tx _)

/-- The outcome of a unit on `s` that leaves the modifiers `m'`. -/
def RunsUnit (m' : Modifiers) (s : State) (o : Host.Outcome State Fault Refusal) : Prop :=
  ∃ acts, o = .next (({ s with m := m' } : State).perform acts) ∧ LeavesIdle acts

variable (s : State) (code : Byte) (release : Bool)

theorem completeUnit_runs {acts : List Action} (h : WritesNoPhase acts) : RunsUnit s.m s (completeUnit acts s) :=
  ⟨_, rfl, leavesIdle_enter_cons h⟩

theorem specialUnit_runs (b : Byte) : RunsUnit s.m s (specialUnit b s) := ⟨_, rfl, fun _ => rfl⟩

theorem execSpAA_runs : RunsUnit s.m s (execSpAA s) := ⟨_, rfl, fun _ => rfl⟩

theorem execPause_runs : RunsUnit s.m s (execPause s) := ⟨_, rfl, fun _ => rfl⟩

theorem lockKey_runs : RunsUnit s.m s (lockKey code release s) :=
  completeUnit_runs s (writesNoPhase_onMake release (writesNoPhase_diag _))

theorem functionKey_runs : RunsUnit s.m s (functionKey code release s) :=
  completeUnit_runs s (writesNoPhase_onMake release (writesNoPhase_diag _))

theorem arrowKey_runs (letter : Byte) : RunsUnit s.m s (arrowKey letter release s) :=
  completeUnit_runs s (writesNoPhase_onMake release (writesNoPhase_txEsc _))

theorem editingKey_runs : RunsUnit s.m s (editingKey code release s) := completeUnit_runs s (writesNoPhase_diag _)

theorem keypadExtra_runs (escape : List Byte) (plain : Byte) :
    RunsUnit s.m s (keypadExtra escape plain release s) := by
  refine completeUnit_runs s (writesNoPhase_onMake release ?_)
  split_ifs
  · exact writesNoPhase_txEsc escape
  · exact writesNoPhase_tx plain

theorem extendedModifier_runs : RunsUnit s.m s (extendedModifier code release s) :=
  completeUnit_runs s (writesNoPhase_diag _)

theorem windowsKey_runs : RunsUnit s.m s (windowsKey code release s) :=
  completeUnit_runs s (writesNoPhase_onMake release (writesNoPhase_diag _))

theorem printScreenHalf_runs : RunsUnit s.m s (printScreenHalf code release s) :=
  completeUnit_runs s (writesNoPhase_diag _)

theorem unknownExtendedKey_runs : RunsUnit s.m s (unknownExtendedKey code release s) :=
  completeUnit_runs s (writesNoPhase_diag _)

theorem asciiUnit_runs : RunsUnit s.m s (asciiUnit code release s) :=
  completeUnit_runs s (writesNoPhase_asciiActions s.rom s.m code release)

theorem ordinaryKey_runs : RunsUnit s.m s (ordinaryKey code release s) := by
  unfold ordinaryKey
  split_ifs
  · exact completeUnit_runs s writesNoPhase_nil
  · exact asciiUnit_runs s code release

theorem keypadKey_runs {acts : List Action} (h : WritesNoPhase acts) :
    RunsUnit s.m s (keypadKey code acts release s) := by
  unfold keypadKey
  split_ifs
  · exact completeUnit_runs s (writesNoPhase_onMake release h)
  · exact asciiUnit_runs s code release

theorem keypadDigit_runs (digit : Nat) : RunsUnit s.m s (keypadDigit code digit release s) :=
  keypadKey_runs s code release (writesNoPhase_txEsc _)

/-- The toggle register after a make or a break of its key (10_state.md R23). -/
def Modifiers.toggled (m : Modifiers) (release : Bool) : Modifiers := if release then m else m.set .CL (!m.get .CL)

theorem levelKey_runs (r : ModReg) : RunsUnit (s.m.set r (!release)) s (levelKey r release s) :=
  ⟨_, rfl, leavesIdle_enter_cons writesNoPhase_nil⟩

theorem toggleKey_runs : RunsUnit (s.m.toggled release) s (toggleKey release s) := by
  cases release with
  | false => exact ⟨_, rfl, leavesIdle_enter_cons writesNoPhase_nil⟩
  | true => exact ⟨_, rfl, leavesIdle_enter_cons writesNoPhase_nil⟩

theorem controlKey_runs :
    RunsUnit (if s.opt.sw then s.m.toggled release else s.m.set .CT (!release)) s (controlKey release s) := by
  unfold controlKey
  split_ifs
  · exact toggleKey_runs s release
  · exact levelKey_runs s release .CT

theorem capsKey_runs :
    RunsUnit (if s.opt.sw then s.m.set .CT (!release) else s.m.toggled release) s (capsKey release s) := by
  unfold capsKey
  split_ifs
  · exact levelKey_runs s release .CT
  · exact toggleKey_runs s release

/-- The modifiers that a unit leaves under opt.SW `sw`. -/
def modifiersAfter (sw : Bool) (m : Modifiers) : Instr → Modifiers
  | .lshiftM => m.set .LS true
  | .lshiftB => m.set .LS false
  | .rshiftM => m.set .RS true
  | .rshiftB => m.set .RS false
  | .ctrlM => if sw then m.toggled false else m.set .CT true
  | .ctrlB => if sw then m.toggled true else m.set .CT false
  | .capsM => if sw then m.set .CT true else m.toggled false
  | .capsB => if sw then m.set .CT false else m.toggled true
  | _ => m

/-- What a unit can do. It refines `exec_next` by the modifiers and by the phase the unit ends in. -/
theorem exec_runs (i : Instr) : RunsUnit (modifiersAfter s.opt.sw s.m i) s (exec i s) := by
  cases i with
  | spFA | spEE | spFE | sp00 | spFF => exact specialUnit_runs s _
  | spAA => exact execSpAA_runs s
  | pause => exact execPause_runs s
  | numlockM | numlockB | scrlockM | scrlockB => exact lockKey_runs s _ _
  | lshiftM | lshiftB => exact levelKey_runs s _ .LS
  | rshiftM | rshiftB => exact levelKey_runs s _ .RS
  | ctrlM | ctrlB => exact controlKey_runs s _
  | capsM | capsB => exact capsKey_runs s _
  | altM | altB => exact completeUnit_runs s writesNoPhase_nil
  | f1M | f1B | f2M | f2B | f3M | f3B | f4M | f4B | f5M | f5B | f6M | f6B | f7M | f7B | f8M | f8B | f9M | f9B
  | f10M | f10B | f11M | f11B | f12M | f12B => exact functionKey_runs s _ _
  | kp0M | kp0B | kp1M | kp1B | kp2M | kp2B | kp3M | kp3B | kp4M | kp4B | kp5M | kp5B | kp6M | kp6B | kp7M | kp7B
  | kp8M | kp8B | kp9M | kp9B | kpdotM | kpdotB => exact keypadDigit_runs s _ _ _
  | kpstarM | kpstarB | kpminusM | kpminusB => exact keypadKey_runs s _ _ (writesNoPhase_txEsc _)
  | kpplusM | kpplusB => exact keypadKey_runs s _ _ writesNoPhase_nil
  | upM | upB | downM | downB | rightM | rightB | leftM | leftB => exact arrowKey_runs s _ _
  | insM | insB | delM | delB | homeM | homeB | endM | endB | pgupM | pgupB | pgdnM | pgdnB =>
    exact editingKey_runs s _ _
  | kpenterM | kpenterB | kpslashM | kpslashB => exact keypadExtra_runs s _ _ _
  | raltM | raltB | rctrlM | rctrlB => exact extendedModifier_runs s _ _
  | lwinM | lwinB | rwinM | rwinB | menuM | menuB => exact windowsKey_runs s _ _
  | prtsc1M | prtsc1B | prtsc2M | prtsc2B => exact printScreenHalf_runs s _ _
  | keyM c | keyB c => exact ordinaryKey_runs s c _
  | xkeyM c | xkeyB c => exact unknownExtendedKey_runs s c _

theorem exec_m {i : Instr} {t : State} (h : exec i s = .next t) : t.m = modifiersAfter s.opt.sw s.m i := by
  obtain ⟨acts, hexec, -⟩ := exec_runs s i
  obtain rfl : _ = t := Host.Outcome.next.inj (hexec.symm.trans h)
  exact perform_m acts _

end Sys2Proof.Machine
end

section
/-! PROOF. The frames over all units (10_state.md R20, R21, R35). -/

namespace Sys2Proof.Machine

theorem Modifiers.toggled_ls (m : Modifiers) (release : Bool) : (m.toggled release).ls = m.ls := by
  cases release <;> rfl

theorem Modifiers.toggled_rs (m : Modifiers) (release : Bool) : (m.toggled release).rs = m.rs := by
  cases release <;> rfl

theorem modifiersAfter_of_not_mem {i : Instr} (sw : Bool) (m : Modifiers) (h : i ∉ modifierUnits) :
    modifiersAfter sw m i = m := by
  unfold modifiersAfter
  split
  case h_9 => rfl
  all_goals exact absurd (by decide) h

/-- Control and Caps Lock leave m[LS], whichever of the two the swap makes them. -/
theorem modifiersAfter_ls {i : Instr} (sw : Bool) (m : Modifiers) (hmake : i ≠ .lshiftM) (hbreak : i ≠ .lshiftB) :
    (modifiersAfter sw m i).ls = m.ls := by
  unfold modifiersAfter
  split
  case h_1 => exact absurd rfl hmake
  case h_2 => exact absurd rfl hbreak
  all_goals cases sw <;> simp [Modifiers.toggled_ls]

theorem modifiersAfter_rs {i : Instr} (sw : Bool) (m : Modifiers) (hmake : i ≠ .rshiftM) (hbreak : i ≠ .rshiftB) :
    (modifiersAfter sw m i).rs = m.rs := by
  unfold modifiersAfter
  split
  case h_3 => exact absurd rfl hmake
  case h_4 => exact absurd rfl hbreak
  all_goals cases sw <;> simp [Modifiers.toggled_rs]

/-- The shift units write neither m[CT] nor m[CL]. -/
theorem modifiersAfter_shift {i : Instr} (sw : Bool) (m : Modifiers)
    (h : i ∈ [.lshiftM, .lshiftB, .rshiftM, .rshiftB]) :
    (modifiersAfter sw m i).ct = m.ct ∧ (modifiersAfter sw m i).cl = m.cl := by
  simp only [List.mem_cons, List.not_mem_nil, or_false] at h
  obtain rfl | rfl | rfl | rfl := h <;> exact ⟨rfl, rfl⟩

/-- Settles O31: the modifiers a unit leaves are `modifiersAfter`, read register by register. -/
theorem onlyModifierUnitsWriteModifiers : Obligations.OnlyModifierUnitsWriteModifiers := by
  intro i s
  obtain ⟨acts, hexec, -⟩ := exec_runs s i
  refine ⟨_, hexec, ?_⟩
  rw [perform_m]
  exact ⟨modifiersAfter_of_not_mem s.opt.sw s.m, modifiersAfter_ls s.opt.sw s.m, modifiersAfter_rs s.opt.sw s.m,
    modifiersAfter_shift s.opt.sw s.m⟩

theorem perform_settle_phase {s : State} {acts : List Action} (ht : s.todo = []) (h : LeavesIdle acts) :
    (s.perform acts).settle.phase = phaseBits .idle := by
  rw [perform_of_todo_nil ht, runActions_settle]
  exact h _

/-- Settles O35: a unit only starts primitives, whose frame is `perform_frame`. -/
theorem unitsTouchOnlyPhaseModifiersAndStreams : Obligations.UnitsTouchOnlyPhaseModifiersAndStreams := by
  intro i s
  obtain ⟨acts, hexec, hidle⟩ := exec_runs s i
  have hframe := perform_frame acts { s with m := modifiersAfter s.opt.sw s.m i }
  have hdiag := diag_prefix_perform acts { s with m := modifiersAfter s.opt.sw s.m i }
  refine ⟨_, hexec, ?_, hdiag, fun a => ?_, fun ht => perform_settle_phase ht hidle⟩
  · rw [perform_m]; exact hframe
  · rw [hframe]

end Sys2Proof.Machine
end

section
/-! PROOF. What a whole step can do (00_scope.md R11), and when it writes the modifiers (10_state.md R21;
60_exceptions.md R296) or faults (10_state.md R25). -/

namespace Sys2Proof.Machine

theorem step_of_phaseOfBits_none {s : State} (h : phaseOfBits s.phase = none) : step s = .fault .illegalPhase := by
  simp [step, blockStep, h]

theorem exists_phase_of_lt {v : BitVec 4} (h : v.toNat < 12) : ∃ p, v = phaseBits p := by
  cases hp : phaseOfBits v with
  | none => exact absurd ((phaseOfBits_eq_none_iff v).mp hp) (by omega)
  | some p => exact ⟨p, phaseBits_of_phaseOfBits v p hp⟩

/-- Settles O55. -/
theorem onlyReservedPhaseEncodingsFault : Obligations.OnlyReservedPhaseEncodingsFault := by
  refine fun s => ⟨fun h => step_of_phaseOfBits_none ((phaseOfBits_eq_none_iff _).mpr h), fun h => ?_⟩
  obtain ⟨p, hp⟩ := exists_phase_of_lt h
  exact step_next hp

/-- A step that answers a next state goes on with what is owed, boots, waits, or reads a byte. -/
theorem step_cases {s t : State} (h : step s = .next t) : ∃ p, s.phase = phaseBits p ∧
    ((∃ a rest, s.todo = a :: rest ∧ t = oweStep a rest s.envTick) ∨
     (s.todo = [] ∧ p = .boot ∧ t = bootStep s.envTick) ∨
     (s.todo = [] ∧ p ≠ .boot ∧ s.envTick.rx.tryRead = none ∧ t = waitStep s.envTick) ∨
     (s.todo = [] ∧ p ≠ .boot ∧ ∃ b, s.envTick.rx.tryRead = some b ∧
       step s = byteStep p b s.envTick.consume)) := by
  cases hbits : phaseOfBits s.phase with
  | none => simp [step_of_phaseOfBits_none hbits] at h
  | some p =>
    have hp := phaseBits_of_phaseOfBits _ p hbits
    refine ⟨p, hp, ?_⟩
    cases ht : s.todo with
    | cons a rest =>
      rw [step_of_todo_cons hp ht] at h
      exact .inl ⟨a, rest, rfl, (Host.Outcome.next.inj h).symm⟩
    | nil =>
      by_cases hb : p = .boot
      · rw [step_of_boot (hb ▸ hp) ht] at h
        exact .inr (.inl ⟨rfl, hb, (Host.Outcome.next.inj h).symm⟩)
      · cases hr : s.envTick.rx.tryRead with
        | none =>
          rw [step_of_poll hb hp ht, pollStep_none hr] at h
          exact .inr (.inr (.inl ⟨rfl, hb, rfl, (Host.Outcome.next.inj h).symm⟩))
        | some b => exact .inr (.inr (.inr ⟨rfl, hb, b, rfl, step_of_tryRead hb hp ht hr⟩))

@[simp] theorem oweStep_m (a : Action) (rest : List Action) (s : State) : (oweStep a rest s).m = s.m := by
  cases a with
  | tx b =>
    rw [oweStep]
    split_ifs
    · exact runActions_m rest _
    · rfl
  | diag e => exact runActions_m _ s
  | enter p => exact runActions_m _ s

@[simp] theorem bootStep_m (s : State) : (bootStep s).m = s.m := by
  unfold bootStep
  split_ifs
  · exact perform_m _ s
  · rfl

@[simp] theorem waitStep_m (s : State) : (waitStep s).m = s.m := by
  unfold waitStep
  split_ifs
  · exact perform_m _ s.reinitialize
  · rfl

theorem byteStep_of_awaiting {s : State} {p p' : Phase} {b : Byte} (h : classify s.par.keymap p b = .awaiting p') :
    byteStep p b s = .next (s.perform [.enter p']) := by
  simp [byteStep, h]

theorem byteStep_of_aborted {s : State} {p : Phase} {b : Byte} {k : Nat} (h : classify s.par.keymap p b = .aborted k) :
    byteStep p b s = .next (s.perform (raise (.pauseMismatch k b) ++ [.enter .idle])) := by
  simp [byteStep, h, abortPause]

theorem byteStep_of_notRead {s : State} {p : Phase} {b : Byte} (h : classify s.par.keymap p b = .notRead) :
    byteStep p b s = .next s := by
  simp [byteStep, h]

/-- A byte that writes the modifiers has completed one of the eight modifier units. -/
theorem modifierUnit_of_byteStep {s t : State} {p : Phase} {b : Byte} (h : byteStep p b s = .next t)
    (hm : t.m ≠ s.m) : ∃ i ∈ modifierUnits, classify s.par.keymap p b = .unit i := by
  cases hread : classify s.par.keymap p b with
  | unit i =>
    rw [byteStep_of_unit hread] at h
    refine ⟨i, ?_, rfl⟩
    by_contra hi
    exact hm ((exec_m s h).trans (modifiersAfter_of_not_mem s.opt.sw s.m hi))
  | awaiting p' =>
    rw [byteStep_of_awaiting hread] at h
    exact absurd (Host.Outcome.next.inj h ▸ perform_m _ s) hm
  | aborted k =>
    rw [byteStep_of_aborted hread] at h
    exact absurd (Host.Outcome.next.inj h ▸ perform_m _ s) hm
  | notRead =>
    rw [byteStep_of_notRead hread] at h
    exact absurd (Host.Outcome.next.inj h ▸ rfl) hm

/-- Settles O32: of the kinds of step only the reading of a byte can write the modifiers. -/
theorem modifiersChangeOnlyWhenAModifierUnitCompletes :
    Obligations.ModifiersChangeOnlyWhenAModifierUnitCompletes := by
  intro s t hstep hm
  obtain ⟨p, hp, ⟨a, rest, -, rfl⟩ | ⟨-, -, rfl⟩ | ⟨-, -, -, rfl⟩ | ⟨-, -, b, hr, hbyte⟩⟩ := step_cases hstep
  · exact absurd (by simp) hm
  · exact absurd (by simp) hm
  · exact absurd (by simp) hm
  · obtain ⟨i, hi, hunit⟩ := modifierUnit_of_byteStep (hbyte ▸ hstep) (by simpa using hm)
    exact ⟨p, b, i, hp, hr, by simpa using hunit, hi, hbyte.trans (byteStep_of_unit hunit)⟩

end Sys2Proof.Machine
end

section
/-! PROOF. Where the options are not read (10_state.md R31; decision D7). -/

namespace Sys2Proof.Machine

/-- From `s` the outcome of `f` is a next state that no change of the options alters, but for the options. -/
def OptionsUnread (f : State → Host.Outcome State Fault Refusal) (s : State) : Prop :=
  ∃ t, f s = .next t ∧ ∀ opt', f { s with opt := opt' } = .next { t with opt := opt' }

theorem runActions_with_opt (acts : List Action) (s : State) (opt' : Options) :
    runActions acts { s with opt := opt' } = { runActions acts s with opt := opt' } := by
  induction acts generalizing s with
  | nil => rfl
  | cons a rest ih =>
    cases a with
    | tx b => rfl
    | diag e => exact ih { s with diag := s.diag ++ [e] }
    | enter p => exact ih (s.setPhase p)

/-- What performs the same primitives under any options does not read them. -/
theorem optionsUnread_of_perform {f : State → Host.Outcome State Fault Refusal} {s : State} {acts : List Action}
    (h : ∀ opt', f { s with opt := opt' } = .next (({ s with opt := opt' } : State).perform acts)) :
    OptionsUnread f s :=
  ⟨s.perform acts, h s.opt, fun opt' => (h opt').trans (congrArg _ (runActions_with_opt _ s opt'))⟩

theorem specialUnit_optionsUnread (b : Byte) (s : State) : OptionsUnread (specialUnit b) s :=
  optionsUnread_of_perform fun _ => rfl

theorem execPause_optionsUnread (s : State) : OptionsUnread execPause s := optionsUnread_of_perform fun _ => rfl

/-- The byte SP.AA sends is a parameter, which the options do not enter. -/
theorem execSpAA_optionsUnread (s : State) : OptionsUnread execSpAA s :=
  optionsUnread_of_perform (acts := [.tx s.par.batAckByte, .diag (.special 0xAA), .enter .idle]) fun _ => rfl

/-- The special units and the Pause unit call no Dispatch. -/
theorem exec_optionsUnread {i : Instr} (s : State) (h : i ∈ [.spFA, .spAA, .spEE, .spFE, .sp00, .spFF, .pause]) :
    OptionsUnread (exec i) s := by
  simp only [List.mem_cons, List.not_mem_nil, or_false] at h
  obtain rfl | rfl | rfl | rfl | rfl | rfl | rfl := h
  · exact specialUnit_optionsUnread 0xFA s
  · exact execSpAA_optionsUnread s
  · exact specialUnit_optionsUnread 0xEE s
  · exact specialUnit_optionsUnread 0xFE s
  · exact specialUnit_optionsUnread 0x00 s
  · exact specialUnit_optionsUnread 0xFF s
  · exact execPause_optionsUnread s

/-- A byte reads the options only through the unit it completes. -/
theorem byteStep_optionsUnread {s : State} {p : Phase} {b : Byte}
    (h : ∀ i, classify s.par.keymap p b = .unit i → OptionsUnread (exec i) s) : OptionsUnread (byteStep p b) s := by
  cases hread : classify s.par.keymap p b with
  | unit i =>
    obtain ⟨t, hexec, hopt⟩ := h i hread
    exact ⟨t, (byteStep_of_unit hread).trans hexec, fun opt' =>
      (byteStep_of_unit (s := { s with opt := opt' }) hread).trans (hopt opt')⟩
  | awaiting p' => exact optionsUnread_of_perform fun opt' => byteStep_of_awaiting (s := { s with opt := opt' }) hread
  | aborted k => exact optionsUnread_of_perform fun opt' => byteStep_of_aborted (s := { s with opt := opt' }) hread
  | notRead =>
    exact ⟨s, byteStep_of_notRead hread, fun opt' => byteStep_of_notRead (s := { s with opt := opt' }) hread⟩

/-- Settles O46: the step is the reading of the waiting byte, with and without the change of the options. -/
theorem optionsAreReadOnlyAtDispatch : Obligations.OptionsAreReadOnlyAtDispatch := by
  intro s p b rest hb hholds hunit
  obtain ⟨t, hbyte, hopt⟩ : OptionsUnread (byteStep p b) (s.taken 1 rest) :=
    byteStep_optionsUnread fun i hi => exec_optionsUnread _ (hunit i hi)
  exact ⟨t, (step_of_holds hb hholds).trans hbyte, fun opt' =>
    (step_of_holds (s := { s with opt := opt' }) hb hholds).trans (hopt opt')⟩

end Sys2Proof.Machine
end

section
/-! PROOF. The translation ROM (20_memory.md R57 to R59): the address of an entry, and bit 7 of an entry, which the
ASCII stage never sends. -/

namespace Sys2Proof.Machine

theorem romAddress_toNat {code : Byte} (idx : BitVec 2) (h : code.toNat < 0x80) :
    (romAddress code idx).toNat = code.toNat * 4 + idx.toNat := by
  have hrow : (code.extractLsb 6 0).toNat = code.toNat := by
    rw [BitVec.extractLsb_toNat, Nat.shiftRight_zero]
    exact Nat.mod_eq_of_lt h
  rw [romAddress, BitVec.toNat_append, hrow, ← Nat.shiftLeft_add_eq_or_of_lt idx.isLt, Nat.shiftLeft_eq]

theorem tableEntry_of_lt (rom : Memory) {code : Byte} (idx : BitVec 2) (h : code.toNat < 0x80) :
    tableEntry rom code idx = Memory.read rom (romAddress code idx) :=
  if_neg fun hge => Nat.not_lt.mpr (BitVec.le_def.mp hge) h

theorem tableEntry_of_ge (rom : Memory) {code : Byte} (idx : BitVec 2) (h : 0x80 ≤ code.toNat) :
    tableEntry rom code idx = 0x00 :=
  if_pos (show 0x80 ≤ code from BitVec.le_def.mpr h)

/-- Settles O28. -/
theorem romAddressIsRowMajor : Obligations.RomAddressIsRowMajor := fun rom _ idx =>
  ⟨fun h => ⟨romAddress_toNat idx h, tableEntry_of_lt rom idx h⟩, tableEntry_of_ge rom idx⟩

theorem maskTo7_or_bitSeven (e : Byte) : maskTo7 (e ||| 0x80) = maskTo7 e := by
  have hbit : (0x80 : Byte).extractLsb 6 0 = 0#7 := rfl
  rw [maskTo7, BitVec.extractLsb_or, hbit, BitVec.or_zero, maskTo7]

theorem asciiByte_or_bitSeven (m : Modifiers) (e : Byte) : asciiByte m (e ||| 0x80) = asciiByte m e := by
  rw [asciiByte, maskTo7_or_bitSeven, asciiByte]

/-- What masks to 0 is no letter, so CapsAdjust leaves it. -/
theorem asciiByte_bitSeven (m : Modifiers) : asciiByte m 0x80 = 0x00 := by
  rw [asciiByte]
  cases m.get .CL <;> rfl

theorem or_bitSeven_ne_zero (e : Byte) : e ||| 0x80 ≠ 0x00 := fun h =>
  absurd (BitVec.or_eq_zero_iff.mp h).2 (by decide)

theorem asciiActions_of_ne_zero {rom : Memory} {m : Modifiers} {code : Byte} (release : Bool)
    (h : lookupEntry rom m code ≠ 0x00) :
    asciiActions rom m code release = onMake release [.tx (asciiByte m (lookupEntry rom m code))] := if_neg h

/-- The ASCII stage does the same for an entry with bit 7 set and without. -/
theorem asciiActions_congr_or_bitSeven {rom rom' : Memory} {m : Modifiers} {code : Byte} (release : Bool)
    (hne : lookupEntry rom m code ≠ 0x00) (hor : lookupEntry rom' m code = lookupEntry rom m code ||| 0x80) :
    asciiActions rom' m code release = asciiActions rom m code release := by
  have hne' : lookupEntry rom' m code ≠ 0x00 := hor ▸ or_bitSeven_ne_zero _
  rw [asciiActions_of_ne_zero release hne', asciiActions_of_ne_zero release hne, hor, asciiByte_or_bitSeven]

/-- KEY.M and KEY.B are the two forms of one ordinary key. -/
theorem exec_key (code : Byte) (release : Bool) (s : State) :
    exec (if release then .keyB code else .keyM code) s = ordinaryKey code release s := by
  cases release <;> rfl

/-- A code that the Num-Lock variant does not claim goes to the ASCII stage. -/
theorem ordinaryKey_of_not_claimed {code : Byte} (release : Bool) {s : State}
    (h : ¬(s.opt.ak = true ∧ code = s.par.keymap.kpNumLk)) :
    ordinaryKey code release s = completeUnit (asciiActions s.rom s.m code release) s :=
  if_neg (by simpa using h)

theorem runActions_with_rom (acts : List Action) (s : State) (rom' : Memory) :
    runActions acts { s with rom := rom' } = { runActions acts s with rom := rom' } := by
  induction acts generalizing s with
  | nil => rfl
  | cons a rest ih =>
    cases a with
    | tx b => rfl
    | diag e => exact ih { s with diag := s.diag ++ [e] }
    | enter p => exact ih (s.setPhase p)

theorem completeUnit_with_rom (acts : List Action) (s : State) (rom' : Memory) :
    completeUnit acts { s with rom := rom' } = .next { s.perform (.enter .idle :: acts) with rom := rom' } :=
  congrArg _ (runActions_with_rom _ s rom')

/-- Settles O29: the two ROMs start the same primitives, since the mask of the ASCII stage removes the bit in which
their entries differ; and it leaves 0 of the entry 0x80. -/
theorem entryBitSevenIsNeverSent : Obligations.EntryBitSevenIsNeverSent := by
  intro s rom' c rel htodo hfree hne
  refine ⟨fun hor => ⟨s.perform (.enter .idle :: asciiActions s.rom s.m c rel), ?_, ?_⟩, fun h80 => ?_⟩
  · rw [exec_key, ordinaryKey_of_not_claimed rel hfree, completeUnit]
  · rw [exec_key, ordinaryKey_of_not_claimed (s := { s with rom := rom' }) rel hfree,
      asciiActions_congr_or_bitSeven rel hne hor, completeUnit_with_rom]
  · have hacts : asciiActions s.rom s.m c false = [.tx 0x00] := by
      rw [asciiActions_of_ne_zero false hne, lookupEntry, h80, asciiByte_bitSeven]
      rfl
    refine completesWith_of_runActions (acts := [.enter .idle, .tx 0x00]) ?_ rfl ?_
    · calc exec (.keyM c) s = completeUnit (asciiActions s.rom s.m c false) s :=
            ordinaryKey_of_not_claimed false hfree
        _ = .next (runActions [.enter .idle, .tx 0x00] s) := by
            rw [hacts, completeUnit, perform_of_todo_nil htodo]
    · simp [appliedAll, Action.applied, State.setPhase, htodo]

end Sys2Proof.Machine
end

section
/-! PROOF. What the environment's events do to its own ports (20_memory.md R68; 10_state.md R32). -/

namespace Sys2Proof.Machine

/-- The byte an event puts into RawKeySource. -/
def EnvEvent.delivered : EnvEvent → Option Byte
  | .deliver b => some b
  | _ => none

theorem applyEvents_buffer (es : List EnvEvent) (s : State) :
    (applyEvents es s).rx.buffer = s.rx.buffer ++ es.filterMap EnvEvent.delivered := by
  induction es generalizing s with
  | nil => exact (List.append_nil _).symm
  | cons e rest ih =>
    rw [applyEvents, ih]
    cases e with
    | deliver b => exact List.append_assoc s.rx.buffer [b] _
    | stall | raiseStatus | options | hostAcks => rfl

/-- The error bits are sticky: events only or bits in (10_state.md R32). -/
theorem applyEvents_status_testBit (es : List EnvEvent) {s : State} {n : Nat} (h : s.rx.status.testBit n = true) :
    (applyEvents es s).rx.status.testBit n = true := by
  induction es generalizing s with
  | nil => exact h
  | cons e rest ih =>
    refine ih ?_
    cases e with
    | raiseStatus bits => simp [EnvEvent.apply, h]
    | deliver | stall | options | hostAcks => exact h

theorem envTick_of_env_cons {s : State} {es : List EnvEvent} {later : List (List EnvEvent)} (h : s.env = es :: later) :
    s.envTick = applyEvents es { s with env := later } := by
  rw [State.envTick, h]

/-- Settles O52. -/
theorem environmentCannotTouchTheBlock : Obligations.EnvironmentCannotTouchTheBlock := by
  intro s es later h
  rw [envTick_of_env_cons h]
  exact ⟨applyEvents_frame es _, applyEvents_buffer es _, fun n hn => applyEvents_status_testBit es hn⟩

end Sys2Proof.Machine
end

section
/-! PROOF. What a step does with the byte in flight, with RawKeySource, and with the constants (20_memory.md R51, R53,
R57, R65, R67). -/

namespace Sys2Proof.Machine

theorem oweStep_tx_stalled {s : State} (b : Byte) (rest : List Action) (h : s.hostAcks = false) :
    oweStep (.tx b) rest s = s := by
  simp [oweStep, h]

theorem oweStep_tx_acknowledged {s : State} (b : Byte) (rest : List Action) (h : s.hostAcks = true) :
    oweStep (.tx b) rest s = s.acknowledge b rest := by
  simp [oweStep, h]

theorem acknowledge_out (s : State) (b : Byte) (rest : List Action) : (s.acknowledge b rest).out = s.out ++ [b] :=
  runActions_out rest _

theorem acknowledge_owed (s : State) (b : Byte) (rest : List Action) : (s.acknowledge b rest).owed = txBytes rest :=
  runActions_owed rest _

/-- Settles O48. -/
theorem hostAcknowledgesOneByteAtATime : Obligations.HostAcknowledgesOneByteAtATime := by
  intro s p b rest hphase htodo
  have hstep : step s = .next (oweStep (.tx b) rest s.envTick) := step_of_todo_cons hphase htodo
  refine ⟨fun hacks => ?_, fun hacks => ⟨s.envTick.acknowledge b rest, ?_, ?_, acknowledge_owed _ b rest, ?_⟩⟩
  · rw [hstep, oweStep_tx_stalled b rest hacks]
  · rw [hstep, oweStep_tx_acknowledged b rest hacks]
  · rw [acknowledge_out, envTick_out]
  · exact acknowledge_settle _ b rest ((envTick_todo s).trans htodo)

/-- Going on with an unfinished step changes nothing, or starts a list of primitives once OUT may have grown. -/
theorem oweStep_cases (a : Action) (rest : List Action) (s : State) :
    oweStep a rest s = s ∨ ∃ acts out', oweStep a rest s = runActions acts { s with out := out' } := by
  cases a with
  | tx b =>
    obtain hacks | hacks := Bool.eq_false_or_eq_true s.hostAcks
    · exact .inr ⟨rest, s.out ++ [b], oweStep_tx_acknowledged b rest hacks⟩
    · exact .inl (oweStep_tx_stalled b rest hacks)
  | diag e => exact .inr ⟨.diag e :: rest, s.out, rfl⟩
  | enter p => exact .inr ⟨.enter p :: rest, s.out, rfl⟩

theorem oweStep_frame (a : Action) (rest : List Action) (s : State) :
    oweStep a rest s = { s with phase := (oweStep a rest s).phase, todo := (oweStep a rest s).todo
                                out := (oweStep a rest s).out, diag := (oweStep a rest s).diag } := by
  obtain h | ⟨acts, out', h⟩ := oweStep_cases a rest s
  · rw [h]
  · rw [h, runActions_out]
    exact runActions_frame acts _

theorem exec_frame {i : Instr} {s t : State} (h : exec i s = .next t) :
    t = { s with phase := t.phase, m := t.m, todo := t.todo, diag := t.diag } := by
  obtain ⟨u, hexec, hframe, -⟩ := unitsTouchOnlyPhaseModifiersAndStreams i s
  obtain rfl : u = t := Host.Outcome.next.inj (hexec.symm.trans h)
  exact hframe

/-- Reading a byte, once it is removed from RawKeySource, touches no more than a unit may. -/
theorem byteStep_frame {p : Phase} {b : Byte} {s t : State} (h : byteStep p b s = .next t) :
    t = { s with phase := t.phase, m := t.m, todo := t.todo, diag := t.diag } := by
  cases hread : classify s.par.keymap p b with
  | unit i => exact exec_frame ((byteStep_of_unit hread).symm.trans h)
  | awaiting p' =>
    obtain rfl := Host.Outcome.next.inj ((byteStep_of_awaiting hread).symm.trans h)
    rw [perform_m]; exact perform_frame _ s
  | aborted k =>
    obtain rfl := Host.Outcome.next.inj ((byteStep_of_aborted hread).symm.trans h)
    rw [perform_m]; exact perform_frame _ s
  | notRead =>
    obtain rfl := Host.Outcome.next.inj ((byteStep_of_notRead hread).symm.trans h)
    rfl

/-- Settles O47: with nothing owed the step reads the byte that the poll removed, and the reading leaves RawKeySource
alone; with a byte owed the step goes on with what is owed, which does too. -/
theorem inputIsConsumedInOrder : Obligations.InputIsConsumedInOrder := by
  intro s p hphase
  obtain ⟨t, hstep⟩ := step_next hphase
  refine ⟨fun b hboot htodo hread => ⟨t, hstep, ?_⟩, fun htodo => ⟨t, hstep, ?_⟩⟩
  · obtain ⟨-, rest, hbuffer⟩ := tryRead_eq_some.mp hread
    have hframe := byteStep_frame ((step_of_tryRead hboot hphase htodo hread).symm.trans hstep)
    rw [hframe]
    simp [hbuffer]
  · obtain ⟨a, rest, hcons⟩ := List.exists_cons_of_ne_nil htodo
    obtain rfl := Host.Outcome.next.inj ((step_of_todo_cons hphase hcons).symm.trans hstep)
    rw [oweStep_frame]
    exact ⟨envTick_inPos s, rfl⟩

theorem bootStep_constants (s : State) : (bootStep s).rom = s.rom ∧ (bootStep s).par = s.par := by
  unfold bootStep
  split_ifs
  · exact ⟨runActions_rom _ s, runActions_par _ s⟩
  · exact ⟨rfl, rfl⟩

theorem waitStep_constants (s : State) : (waitStep s).rom = s.rom ∧ (waitStep s).par = s.par := by
  unfold waitStep
  split_ifs
  · exact ⟨runActions_rom _ s.reinitialize, runActions_par _ s.reinitialize⟩
  · exact ⟨rfl, rfl⟩

/-- No step writes a constant (10_state.md R33). -/
theorem step_constants {s t : State} (h : step s = .next t) : t.rom = s.rom ∧ t.par = s.par := by
  rw [← envTick_rom s, ← envTick_par s]
  obtain ⟨p, -, ⟨a, rest, -, rfl⟩ | ⟨-, -, rfl⟩ | ⟨-, -, -, rfl⟩ | ⟨-, -, b, -, hbyte⟩⟩ := step_cases h
  · rw [oweStep_frame]
    exact ⟨rfl, rfl⟩
  · exact bootStep_constants _
  · exact waitStep_constants _
  · rw [byteStep_frame (hbyte.symm.trans h)]
    exact ⟨rfl, rfl⟩

/-- Settles O54. -/
theorem romAndParametersAreNeverWritten : Obligations.RomAndParametersAreNeverWritten := by
  intro s p hphase
  obtain ⟨t, hstep⟩ := step_next hphase
  obtain ⟨hrom, hpar⟩ := step_constants hstep
  exact ⟨t, hstep, hrom, hpar, fun a => by rw [hrom]⟩

end Sys2Proof.Machine
end

section
/-! PROOF. DIAG never feeds back (20_memory.md R56): every kind of step appends the same events to whatever DIAG
holds. -/

namespace Sys2Proof.Machine

/-- From `s` the outcome of `f` is a next state that no other DIAG alters, but for DIAG, to which `f` appends the same
events. -/
def AppendsToDiag (f : State → Host.Outcome State Fault Refusal) (s : State) : Prop :=
  ∃ (t : State) (events : List DiagEvent), ∀ d, f { s with diag := d } = .next { t with diag := d ++ events }

theorem runActions_appends (acts : List Action) (s : State) :
    ∃ events, ∀ d, runActions acts { s with diag := d } = { runActions acts s with diag := d ++ events } := by
  induction acts generalizing s with
  | nil => exact ⟨[], fun d => by simp⟩
  | cons a rest ih =>
    cases a with
    | tx b => exact ⟨[], fun d => by simp⟩
    | diag e =>
      obtain ⟨events, h⟩ := ih s
      refine ⟨e :: events, fun d => ?_⟩
      rw [runActions_diag, runActions_diag, h (s.diag ++ [e]), h (d ++ [e]), List.append_assoc,
        List.singleton_append]
    | enter p => exact ih (s.setPhase p)

theorem EnvEvent.apply_with_diag (e : EnvEvent) (s : State) (d : List DiagEvent) :
    e.apply { s with diag := d } = { e.apply s with diag := d } := by
  cases e <;> rfl

theorem applyEvents_with_diag (es : List EnvEvent) (s : State) (d : List DiagEvent) :
    applyEvents es { s with diag := d } = { applyEvents es s with diag := d } := by
  induction es generalizing s with
  | nil => rfl
  | cons e rest ih =>
    rw [applyEvents, EnvEvent.apply_with_diag]
    exact ih (e.apply s)

theorem envTick_with_diag (s : State) (d : List DiagEvent) :
    ({ s with diag := d } : State).envTick = { s.envTick with diag := d } := by
  by_cases henv : s.env = []
  · rw [envTick_of_env_nil henv, envTick_of_env_nil (s := { s with diag := d }) henv]
  · obtain ⟨es, later, hcons⟩ := List.exists_cons_of_ne_nil henv
    rw [envTick_of_env_cons hcons, envTick_of_env_cons (s := { s with diag := d }) hcons]
    exact applyEvents_with_diag es { s with env := later } d

section
variable {s : State} {f g : State → Host.Outcome State Fault Refusal}

theorem AppendsToDiag.congr (h : AppendsToDiag g s) (hfg : ∀ d, f { s with diag := d } = g { s with diag := d }) :
    AppendsToDiag f s := by
  obtain ⟨t, events, ht⟩ := h
  exact ⟨t, events, fun d => (hfg d).trans (ht d)⟩

theorem appendsToDiag_next : AppendsToDiag .next s := ⟨s, [], fun d => by simp⟩

/-- What starts the same primitives whatever DIAG holds, on a state made without reading it. -/
theorem appendsToDiag_runActions {acts : State → List Action} {u : State → State}
    (hacts : ∀ d, acts { s with diag := d } = acts s) (hu : ∀ d, u { s with diag := d } = { u s with diag := d }) :
    AppendsToDiag (fun s => .next (runActions (acts s) (u s))) s := by
  obtain ⟨events, h⟩ := runActions_appends (acts s) (u s)
  refine ⟨runActions (acts s) (u s), events, fun d => ?_⟩
  beta_reduce
  rw [hacts, hu, h]

theorem appendsToDiag_perform (acts : List Action) : AppendsToDiag (fun s => .next (s.perform acts)) s :=
  appendsToDiag_runActions (fun _ => rfl) fun _ => rfl

/-- A branch on what is not DIAG. -/
theorem appendsToDiag_ite {c : State → Bool} (hc : ∀ d, c { s with diag := d } = c s) (hf : AppendsToDiag f s)
    (hg : AppendsToDiag g s) : AppendsToDiag (fun s => if c s then f s else g s) s := by
  cases h : c s with
  | true => exact hf.congr fun d => if_pos ((hc d).trans h)
  | false => exact hg.congr fun d => if_neg (by simp [hc d, h])

end

theorem exec_appendsToDiag (i : Instr) (s : State) : AppendsToDiag (exec i) s := by
  cases i with
  | ctrlM | ctrlB | capsM | capsB | kp0M | kp0B | kp1M | kp1B | kp2M | kp2B | kp3M | kp3B | kp4M | kp4B | kp5M | kp5B
  | kp6M | kp6B | kp7M | kp7B | kp8M | kp8B | kp9M | kp9B | kpdotM | kpdotB | kpstarM | kpstarB | kpminusM | kpminusB
  | kpplusM | kpplusB | keyM | keyB =>
    exact appendsToDiag_ite (fun _ => rfl) (appendsToDiag_runActions (fun _ => rfl) fun _ => rfl)
      (appendsToDiag_runActions (fun _ => rfl) fun _ => rfl)
  | _ => exact appendsToDiag_runActions (fun _ => rfl) fun _ => rfl

theorem byteStep_appendsToDiag (p : Phase) (b : Byte) (s : State) : AppendsToDiag (byteStep p b) s := by
  cases hread : classify s.par.keymap p b with
  | unit i => exact (exec_appendsToDiag i s).congr fun d => byteStep_of_unit (s := { s with diag := d }) hread
  | awaiting p' =>
    exact (appendsToDiag_perform [.enter p']).congr fun d =>
      byteStep_of_awaiting (s := { s with diag := d }) hread
  | aborted k =>
    exact (appendsToDiag_perform (raise (.pauseMismatch k b) ++ [.enter .idle])).congr fun d =>
      byteStep_of_aborted (s := { s with diag := d }) hread
  | notRead => exact appendsToDiag_next.congr fun d => byteStep_of_notRead (s := { s with diag := d }) hread

theorem oweStep_appendsToDiag (a : Action) (rest : List Action) (s : State) :
    AppendsToDiag (fun s => .next (oweStep a rest s)) s := by
  cases a with
  | tx b =>
    refine (appendsToDiag_ite (c := State.hostAcks) (f := fun s => .next (s.acknowledge b rest)) (fun _ => rfl)
      (appendsToDiag_runActions (fun _ => rfl) fun _ => rfl) appendsToDiag_next).congr fun d => ?_
    exact apply_ite _ _ _ _
  | diag e => exact appendsToDiag_runActions (acts := fun _ => .diag e :: rest) (fun _ => rfl) fun _ => rfl
  | enter p => exact appendsToDiag_runActions (acts := fun _ => .enter p :: rest) (fun _ => rfl) fun _ => rfl

theorem bootStep_appendsToDiag (s : State) : AppendsToDiag (fun s => .next (bootStep s)) s :=
  (appendsToDiag_ite (c := State.startCheckPassed) (f := fun s => .next (s.perform bannerActions)) (fun _ => rfl)
    (appendsToDiag_runActions (fun _ => rfl) fun _ => rfl) appendsToDiag_next).congr fun _ => apply_ite _ _ _ _

theorem waitStep_appendsToDiag (s : State) : AppendsToDiag (fun s => .next (waitStep s)) s :=
  (appendsToDiag_ite (c := fun s => s.rx.err) (f := fun s => .next (recoverStep s)) (fun _ => rfl)
    (appendsToDiag_runActions (fun _ => rfl) fun _ => rfl) appendsToDiag_next).congr fun _ => apply_ite _ _ _ _

theorem pollStep_appendsToDiag (p : Phase) (s : State) : AppendsToDiag (pollStep p) s := by
  cases hread : s.rx.tryRead with
  | some b =>
    have hbyte : AppendsToDiag (fun s => byteStep p b s.consume) s := byteStep_appendsToDiag p b s.consume
    exact hbyte.congr fun d => pollStep_some (s := { s with diag := d }) hread
  | none => exact (waitStep_appendsToDiag s).congr fun d => pollStep_none (s := { s with diag := d }) hread

/-- The environment acts alike whatever DIAG holds, so a step is judged by what the block does after it. -/
theorem appendsToDiag_step_of_block {f : State → Host.Outcome State Fault Refusal} {s : State}
    (h : AppendsToDiag f s.envTick)
    (hstep : ∀ d, step { s with diag := d } = f ({ s with diag := d } : State).envTick) : AppendsToDiag step s := by
  obtain ⟨t, events, ht⟩ := h
  refine ⟨t, events, fun d => ?_⟩
  rw [hstep, envTick_with_diag]
  exact ht d

theorem step_appendsToDiag {s : State} {p : Phase} (hp : s.phase = phaseBits p) : AppendsToDiag step s := by
  cases ht : s.todo with
  | cons a rest =>
    exact appendsToDiag_step_of_block (oweStep_appendsToDiag a rest _) fun d =>
      step_of_todo_cons (s := { s with diag := d }) hp ht
  | nil =>
    by_cases hb : p = .boot
    · exact appendsToDiag_step_of_block (bootStep_appendsToDiag _) fun d =>
        step_of_boot (s := { s with diag := d }) (hb ▸ hp) ht
    · exact appendsToDiag_step_of_block (pollStep_appendsToDiag p _) fun d =>
        step_of_poll (s := { s with diag := d }) hb hp ht

/-- Settles O53. -/
theorem diagnosticsNeverFeedBack : Obligations.DiagnosticsNeverFeedBack := by
  intro s p hp
  obtain ⟨t, events, h⟩ := step_appendsToDiag hp
  exact ⟨{ t with diag := s.diag ++ events }, events, h s.diag, rfl, h⟩

end Sys2Proof.Machine
end

section
/-! PROOF. What a unit sends (20_memory.md R54, R55; 00_scope.md R11). -/

namespace Sys2Proof.Machine

/-- What a unit other than SP.AA may owe under opt.AK `ak`: at most one byte or a listed sequence, of bytes with bit 7
clear, three of them in application mode only. -/
def UnitOutput (ak : Bool) (bytes : List Byte) : Prop :=
  (bytes.length ≤ 1 ∨ bytes ∈ escapeSequences) ∧ bytes.length ≤ 3 ∧ (bytes.length = 3 → ak = true) ∧
    ∀ b ∈ bytes, b.toNat < 0x80

theorem unitOutput_nil (ak : Bool) : UnitOutput ak [] := by simp [UnitOutput]

theorem unitOutput_singleton (ak : Bool) {b : Byte} (h : b.toNat < 0x80) : UnitOutput ak [b] := by
  simp [UnitOutput, h]

/-- Every listed sequence is of two or three bytes with bit 7 clear. -/
theorem escapeSequences_bytes : ∀ bytes ∈ escapeSequences, bytes.length ≤ 3 ∧ ∀ b ∈ bytes, b.toNat < 0x80 := by
  simp [escapeSequences]

theorem unitOutput_of_mem {ak : Bool} {bytes : List Byte} (h : bytes ∈ escapeSequences)
    (hak : bytes.length = 3 → ak = true) : UnitOutput ak bytes :=
  ⟨.inr h, (escapeSequences_bytes bytes h).1, hak, (escapeSequences_bytes bytes h).2⟩

theorem unitOutput_onMake {ak : Bool} {acts : List Action} (release : Bool) (h : UnitOutput ak (txBytes acts)) :
    UnitOutput ak (txBytes (onMake release acts)) := by
  cases release with
  | false => exact h
  | true => exact unitOutput_nil ak

/-- The mask of the ASCII stage clears bit 7 (44_ascii.md R262). -/
theorem asciiByte_toNat_lt (m : Modifiers) (e : Byte) : (asciiByte m e).toNat < 0x80 := by
  rw [asciiByte, BitVec.toNat_setWidth]
  exact (Nat.mod_le _ _).trans_lt (BitVec.isLt _)

theorem unitOutput_asciiActions (ak : Bool) (rom : Memory) (m : Modifiers) (code : Byte) (release : Bool) :
    UnitOutput ak (txBytes (asciiActions rom m code release)) := by
  unfold asciiActions
  split_ifs
  · exact unitOutput_nil ak
  · exact unitOutput_onMake release (unitOutput_singleton ak (asciiByte_toNat_lt _ _))

/-- The keypad's letters are the last bytes of the listed sequences of three (43_keypad.md R230). -/
theorem keypadDigit_mem_escapeSequences :
    ∀ digit < 11, [asciiEsc, asciiQuery, keypadLetter digit] ∈ escapeSequences := by
  decide

theorem perform_owed {s : State} (ht : s.todo = []) (m' : Modifiers) (acts : List Action) :
    (({ s with m := m' } : State).perform acts).owed = txBytes acts := by
  rw [perform_of_todo_nil (s := { s with m := m' }) ht]
  exact runActions_owed acts _

/-- The outcome of a unit on `s` that owes what a unit may. -/
def SendsUnitOutput (s : State) (o : Host.Outcome State Fault Refusal) : Prop :=
  ∃ t, o = .next t ∧ UnitOutput s.opt.ak t.owed

section
variable {s : State} (ht : s.todo = [])
include ht

theorem perform_sends {m' : Modifiers} {acts : List Action} (h : UnitOutput s.opt.ak (txBytes acts)) :
    SendsUnitOutput s (.next (({ s with m := m' } : State).perform acts)) :=
  ⟨_, rfl, (perform_owed ht m' acts).symm ▸ h⟩

theorem completeUnit_sends {acts : List Action} (h : UnitOutput s.opt.ak (txBytes acts)) :
    SendsUnitOutput s (completeUnit acts s) := perform_sends ht h

theorem levelKey_sends (r : ModReg) (release : Bool) : SendsUnitOutput s (levelKey r release s) :=
  perform_sends ht (unitOutput_nil _)

theorem toggleKey_sends (release : Bool) : SendsUnitOutput s (toggleKey release s) := by
  cases release with
  | false => exact perform_sends ht (unitOutput_nil _)
  | true => exact perform_sends ht (unitOutput_nil _)

theorem controlKey_sends (release : Bool) : SendsUnitOutput s (controlKey release s) := by
  unfold controlKey
  split_ifs
  · exact toggleKey_sends ht release
  · exact levelKey_sends ht .CT release

theorem capsKey_sends (release : Bool) : SendsUnitOutput s (capsKey release s) := by
  unfold capsKey
  split_ifs
  · exact levelKey_sends ht .CT release
  · exact toggleKey_sends ht release

theorem arrowKey_sends {letter : Byte} (h : [asciiEsc, letter] ∈ escapeSequences) (release : Bool) :
    SendsUnitOutput s (arrowKey letter release s) :=
  completeUnit_sends ht (unitOutput_onMake release (unitOutput_of_mem h nofun))

theorem keypadExtra_sends {escape : List Byte} {plain : Byte} (h : txBytes (txEsc escape) ∈ escapeSequences)
    (hplain : plain.toNat < 0x80) (release : Bool) : SendsUnitOutput s (keypadExtra escape plain release s) := by
  refine completeUnit_sends ht (unitOutput_onMake release ?_)
  split_ifs with hak
  · exact unitOutput_of_mem h fun _ => hak
  · exact unitOutput_singleton _ hplain

theorem asciiUnit_sends (code : Byte) (release : Bool) : SendsUnitOutput s (asciiUnit code release s) :=
  completeUnit_sends ht (unitOutput_asciiActions _ _ _ _ _)

theorem ordinaryKey_sends (code : Byte) (release : Bool) : SendsUnitOutput s (ordinaryKey code release s) := by
  unfold ordinaryKey
  split_ifs
  · exact completeUnit_sends ht (unitOutput_nil _)
  · exact asciiUnit_sends ht code release

theorem keypadKey_sends (code : Byte) {acts : List Action} (release : Bool)
    (h : s.opt.ak = true → UnitOutput s.opt.ak (txBytes acts)) : SendsUnitOutput s (keypadKey code acts release s) := by
  unfold keypadKey
  split_ifs with hak
  · exact completeUnit_sends ht (unitOutput_onMake release (h hak))
  · exact asciiUnit_sends ht code release

theorem keypadDigit_sends (code : Byte) {digit : Nat} (release : Bool) (h : digit < 11) :
    SendsUnitOutput s (keypadDigit code digit release s) :=
  keypadKey_sends ht code release fun hak =>
    unitOutput_of_mem (keypadDigit_mem_escapeSequences digit h) fun _ => hak

/-- Every unit but SP.AA: the silent ones start no `Tx` at all, the others are the kinds above. -/
theorem exec_sends {i : Instr} (hi : i ≠ .spAA) : SendsUnitOutput s (exec i s) := by
  cases i with
  | spAA => exact absurd rfl hi
  | lshiftM | lshiftB | rshiftM | rshiftB => exact levelKey_sends ht _ _
  | ctrlM | ctrlB => exact controlKey_sends ht _
  | capsM | capsB => exact capsKey_sends ht _
  | kp0M | kp0B | kp1M | kp1B | kp2M | kp2B | kp3M | kp3B | kp4M | kp4B | kp5M | kp5B | kp6M | kp6B | kp7M | kp7B
  | kp8M | kp8B | kp9M | kp9B | kpdotM | kpdotB => exact keypadDigit_sends ht _ _ (by decide)
  | kpstarM | kpstarB | kpminusM | kpminusB =>
    exact keypadKey_sends ht _ _ fun hak => unitOutput_of_mem (by decide) fun _ => hak
  | kpplusM | kpplusB => exact keypadKey_sends ht _ _ fun _ => unitOutput_nil _
  | upM | upB | downM | downB | rightM | rightB | leftM | leftB => exact arrowKey_sends ht (by decide) _
  | kpenterM | kpenterB | kpslashM | kpslashB => exact keypadExtra_sends ht (by decide) (by decide) _
  | keyM c | keyB c => exact ordinaryKey_sends ht c _
  | _ => exact perform_sends ht (unitOutput_nil _)

theorem execSpAA_owes_batAckByte : ∃ t, exec .spAA s = .next t ∧ t.owed = [s.par.batAckByte] :=
  ⟨_, rfl, perform_owed ht s.m _⟩

end

/-- Settles O34. -/
theorem unitsSendOneByteOrAListedSequence : Obligations.UnitsSendOneByteOrAListedSequence := by
  intro i s ht
  by_cases hi : i = .spAA
  · obtain ⟨t, hexec, howed⟩ := execSpAA_owes_batAckByte ht
    refine ⟨t, hi ▸ hexec, ?_⟩
    rw [howed]
    simp [hi]
  · obtain ⟨t, hexec, hlisted, hlength, hthree, hbytes⟩ := exec_sends ht hi
    exact ⟨t, hexec, hlisted, hlength, hthree, fun _ => hbytes, fun h => absurd h hi⟩

end Sys2Proof.Machine
end

section
/-! PROOF. The decoder and the encoder agree (30_encoding.md R80, R82, R97): what one byte can do in a phase, said
once, and from it what a byte list can decode to. -/

namespace Sys2Proof

/-- 0xE1 and the first `k - 1` continuation bytes: what has been read in phase P`k` (30_encoding.md R82). -/
def pausePrefix (k : Nat) : List Byte := 0xE1 :: (List.range (k - 1)).map fun j => pauseSeq (j + 1)

/-- The bytes of the present unit that have been read in a phase (10_state.md R25); `readsTo_bytesRead` ties it to the
decoder. -/
def Phase.bytesRead : Phase → List Byte
  | .boot | .idle => []
  | .rel => [0xF0]
  | .ext => [0xE0]
  | .extRel => [0xE0, 0xF0]
  | .p1 => pausePrefix 1
  | .p2 => pausePrefix 2
  | .p3 => pausePrefix 3
  | .p4 => pausePrefix 4
  | .p5 => pausePrefix 5
  | .p6 => pausePrefix 6
  | .p7 => pausePrefix 7

theorem Phase.bytesRead_length_lt_eight (p : Phase) : p.bytesRead.length < 8 := by cases p <;> decide

/-- What a reading of the byte `b` in phase `p` says of the bytes read with `b`: they are a unit's, or those of the next
phase, or `b` is the wrong byte at position `k` of the Pause unit. -/
def ReadingFits (km : KeyMap) (p : Phase) (b : Byte) : Reading → Prop
  | .unit i => encode km i = p.bytesRead ++ [b] ∧ i.wf km = true
  | .awaiting q => q ≠ .boot ∧ q.bytesRead = p.bytesRead ++ [b]
  | .aborted k => p.bytesRead = pausePrefix k ∧ b ≠ pauseSeq k ∧ 1 ≤ k ∧ k ≤ 7
  | .notRead => p = .boot

theorem classifyFirst_of_not_mem (km : KeyMap) {b : Byte} (h : b ∉ Config.idleBytes) :
    classifyFirst km b = .unit (plainUnit km b false) := by
  simp only [Config.idleBytes, List.mem_cons, List.not_mem_nil, or_false, not_or] at h
  simp only [classifyFirst, h, if_false]

theorem readingFits_plainUnit {km : KeyMap} {p : Phase} {c : Byte} {release : Bool}
    (hc : release = false → c ∉ Config.idleBytes) (hp : p.bytesRead = if release then [0xF0] else []) :
    ReadingFits km p c (.unit (plainUnit km c release)) := by
  obtain ⟨hwf, hencode⟩ := plainUnit_spec km c release hc
  refine ⟨?_, hwf⟩
  rw [hencode, hp]
  cases release <;> rfl

theorem readingFits_extendedUnit {km : KeyMap} {p : Phase} {c : Byte} {release : Bool}
    (hc : release = false → c ≠ 0xF0) (hp : p.bytesRead = if release then [0xE0, 0xF0] else [0xE0]) :
    ReadingFits km p c (.unit (extendedUnit km c release)) := by
  obtain ⟨hwf, hencode⟩ := extendedUnit_spec km c release hc
  refine ⟨?_, hwf⟩
  rw [hencode, hp]
  cases release <;> rfl

theorem readingFits_classifyPause {km : KeyMap} {p : Phase} {k : Nat} {b : Byte} {matched : Reading}
    (hp : p.bytesRead = pausePrefix k) (hlow : 1 ≤ k) (hhigh : k ≤ 7)
    (hmatched : ReadingFits km p (pauseSeq k) matched) : ReadingFits km p b (classifyPause k b matched) := by
  unfold classifyPause
  split_ifs with hb
  · exact hb ▸ hmatched
  · exact ⟨hp, hb, hlow, hhigh⟩

theorem readingFits_classifyFirst (km : KeyMap) (b : Byte) : ReadingFits km .idle b (classifyFirst km b) := by
  by_cases hb : b ∈ Config.idleBytes
  · simp only [Config.idleBytes, List.mem_cons, List.not_mem_nil, or_false] at hb
    obtain rfl | rfl | rfl | rfl | rfl | rfl | rfl | rfl | rfl := hb
    iterate 6 exact ⟨rfl, rfl⟩
    iterate 3 exact ⟨nofun, rfl⟩
  · rw [classifyFirst_of_not_mem km hb]
    exact readingFits_plainUnit (fun _ => hb) rfl

/-- What one byte can do in a phase. -/
theorem readingFits_classify (km : KeyMap) (p : Phase) (b : Byte) : ReadingFits km p b (classify km p b) := by
  cases p with
  | boot => exact rfl
  | idle => exact readingFits_classifyFirst km b
  | rel => exact readingFits_plainUnit nofun rfl
  | extRel => exact readingFits_extendedUnit nofun rfl
  | ext =>
    rw [classify]
    split_ifs with hb
    · exact ⟨nofun, by rw [hb]; rfl⟩
    · exact readingFits_extendedUnit (fun _ => hb) rfl
  | p1 | p2 | p3 | p4 | p5 | p6 =>
    exact readingFits_classifyPause rfl (by decide) (by decide) ⟨nofun, rfl⟩
  | p7 => exact readingFits_classifyPause rfl (by decide) (by decide) ⟨rfl, rfl⟩

/-- What the outcome of decoding says of the bytes decoded: they are a unit's and a rest, a broken-off Pause unit and a
rest, or those of an unfinished unit. -/
def DecodedFits (km : KeyMap) (bytes : List Byte) : Decoded → Prop
  | .unit i rest => bytes = encode km i ++ rest ∧ i.wf km = true
  | .rejected (.pauseMismatch k b rest) => bytes = pausePrefix k ++ b :: rest ∧ b ≠ pauseSeq k ∧ 1 ≤ k ∧ k ≤ 7
  | .rejected (.incomplete p) => p ≠ .boot ∧ bytes = p.bytesRead
  | .rejected .notRead => False

/-- Decoding goes on from the bytes already read, byte by byte. -/
theorem decodedFits_decodeFrom (km : KeyMap) (bytes : List Byte) {p : Phase} (hboot : p ≠ .boot) :
    DecodedFits km (p.bytesRead ++ bytes) (decodeFrom km p bytes) := by
  induction bytes generalizing p with
  | nil => exact ⟨hboot, List.append_nil _⟩
  | cons b rest ih =>
    have hfits := readingFits_classify km p b
    rw [decodeFrom]
    cases hread : classify km p b with
    | unit i =>
      rw [hread] at hfits
      obtain ⟨hencode, hwf⟩ := hfits
      exact ⟨by simp [hencode], hwf⟩
    | awaiting q =>
      rw [hread] at hfits
      obtain ⟨hq, hbytes⟩ := hfits
      have hrest := ih hq
      rwa [hbytes, List.append_assoc] at hrest
    | aborted k =>
      rw [hread] at hfits
      obtain ⟨hbytes, hk⟩ := hfits
      exact ⟨by rw [hbytes], hk⟩
    | notRead =>
      rw [hread] at hfits
      exact hboot hfits

theorem decodedFits_decode (km : KeyMap) (bytes : List Byte) : DecodedFits km bytes (decode km bytes) :=
  decodedFits_decodeFrom km bytes (p := .idle) nofun

/-- Settles O37. -/
theorem encodeOfDecode : Obligations.EncodeOfDecode := by
  intro km i bytes rest h
  have hfits := decodedFits_decode km bytes
  rwa [h] at hfits

/-- Settles O38: the outcomes that `DecodedFits` allows. -/
theorem everyByteSequenceParses : Obligations.EveryByteSequenceParses := by
  intro km bytes
  have hfits := decodedFits_decode km bytes
  cases hd : decode km bytes with
  | unit i rest =>
    rw [hd] at hfits
    obtain ⟨hbytes, -⟩ := hfits
    exact .inl ⟨i, rest, rfl, by rw [hbytes, List.length_append]⟩
  | rejected e =>
    rw [hd] at hfits
    cases e with
    | incomplete p =>
      obtain ⟨hp, hbytes⟩ := hfits
      exact .inr (.inr ⟨p, rfl, hp, hbytes ▸ p.bytesRead_length_lt_eight⟩)
    | pauseMismatch k b rest =>
      obtain ⟨hbytes, hb, hlow, hhigh⟩ := hfits
      exact .inr (.inl ⟨k, b, rest, rfl, hlow, hhigh, hb, hbytes⟩)
    | notRead => exact hfits.elim

/-- Settles O39, by running the decoder on the ten words. -/
theorem sampleWordsDecodeToTheirUnits : Obligations.SampleWordsDecodeToTheirUnits := by
  unfold Obligations.SampleWordsDecodeToTheirUnits
  decide

/-- Settles O40: R94 by evaluation, the codes as listed. -/
theorem defaultKeymapIsScanCodeSetTwo : Obligations.DefaultKeymapIsScanCodeSetTwo :=
  ⟨by decide, rfl, rfl, rfl⟩

/-! ### Every well-formed unit is read (R80, R94) -/

theorem unitOfCode_of_mem {rows : List KeyRow} {r : KeyRow} (other : Instr) (release : Bool)
    (hnodup : (rows.map (·.1)).Nodup) (hr : r ∈ rows) :
    unitOfCode rows other r.1 release = if release then r.2.2 else r.2.1 := by
  obtain ⟨-, hn⟩ | ⟨r', hr', hcode, hunit⟩ := unitOfCode_cases rows other r.1 release
  · exact absurd rfl (hn r hr)
  · rw [hunit, List.inj_on_of_nodup_map hnodup hr hr' hcode]

theorem unitOfCode_of_not_mem {rows : List KeyRow} {c : Byte} (other : Instr) (release : Bool)
    (hc : c ∉ rows.map (·.1)) : unitOfCode rows other c release = other := by
  obtain ⟨hunit, -⟩ | ⟨r, hr, rfl, -⟩ := unitOfCode_cases rows other c release
  · exact hunit
  · exact absurd (List.mem_map_of_mem hr) hc

theorem KeyMap.wf_iff (km : KeyMap) : km.wf = true ↔ km.extendedCodes.Nodup ∧ km.plainCodes.Nodup ∧
    ∀ c ∈ km.extendedCodes ++ km.plainCodes, c ∉ Config.idleBytes := by
  simp only [KeyMap.wf, Bool.and_eq_true, decide_eq_true_eq, List.all_eq_true, Bool.not_eq_true',
    List.contains_eq_mem, decide_eq_false_iff_not, and_assoc]

section
variable {km : KeyMap} (hkm : km.wf = true) {i : Instr}
include hkm

theorem exists_classify_of_plainMake (h : i ∈ (plainKeys km).map (·.2.1)) : ∃ p b, classify km p b = .unit i := by
  obtain ⟨r, hr, rfl⟩ := List.mem_map.mp h
  obtain ⟨-, hnodup, hfree⟩ := km.wf_iff.mp hkm
  have hcode : r.1 ∈ km.plainCodes := List.mem_map_of_mem hr
  have hnot := hfree r.1 (List.mem_append_right _ hcode)
  exact ⟨.idle, r.1, (classifyFirst_of_not_mem km hnot).trans
    (congrArg Reading.unit (unitOfCode_of_mem _ false hnodup hr))⟩

theorem exists_classify_of_plainBreak (h : i ∈ (plainKeys km).map (·.2.2)) : ∃ p b, classify km p b = .unit i := by
  obtain ⟨r, hr, rfl⟩ := List.mem_map.mp h
  obtain ⟨-, hnodup, -⟩ := km.wf_iff.mp hkm
  exact ⟨.rel, r.1, congrArg Reading.unit (unitOfCode_of_mem _ true hnodup hr)⟩

theorem exists_classify_of_extendedMake (h : i ∈ (extendedKeys km).map (·.2.1)) :
    ∃ p b, classify km p b = .unit i := by
  obtain ⟨r, hr, rfl⟩ := List.mem_map.mp h
  obtain ⟨hnodup, -, hfree⟩ := km.wf_iff.mp hkm
  have hcode : r.1 ∈ km.extendedCodes := List.mem_map_of_mem hr
  have hnot : r.1 ≠ 0xF0 := fun hF0 => hfree r.1 (List.mem_append_left _ hcode) (by rw [hF0]; decide)
  exact ⟨.ext, r.1, (if_neg hnot).trans (congrArg Reading.unit (unitOfCode_of_mem _ false hnodup hr))⟩

theorem exists_classify_of_extendedBreak (h : i ∈ (extendedKeys km).map (·.2.2)) :
    ∃ p b, classify km p b = .unit i := by
  obtain ⟨r, hr, rfl⟩ := List.mem_map.mp h
  obtain ⟨hnodup, -, -⟩ := km.wf_iff.mp hkm
  exact ⟨.extRel, r.1, congrArg Reading.unit (unitOfCode_of_mem _ true hnodup hr)⟩

/-- Some byte completes each well-formed unit in some phase. -/
theorem exists_classify_of_wf (hi : i.wf km = true) : ∃ p b, classify km p b = .unit i := by
  cases i with
  | spFA => exact ⟨.idle, 0xFA, rfl⟩
  | spAA => exact ⟨.idle, 0xAA, rfl⟩
  | spEE => exact ⟨.idle, 0xEE, rfl⟩
  | spFE => exact ⟨.idle, 0xFE, rfl⟩
  | sp00 => exact ⟨.idle, 0x00, rfl⟩
  | spFF => exact ⟨.idle, 0xFF, rfl⟩
  | pause => exact ⟨.p7, 0x77, rfl⟩
  | numlockM | scrlockM | lshiftM | rshiftM | ctrlM | capsM | altM | f1M | f2M | f3M | f4M | f5M | f6M | f7M | f8M
  | f9M | f10M | f11M | f12M | kp0M | kp1M | kp2M | kp3M | kp4M | kp5M | kp6M | kp7M | kp8M | kp9M | kpdotM | kpstarM
  | kpminusM | kpplusM => exact exists_classify_of_plainMake hkm (by simp [plainKeys])
  | numlockB | scrlockB | lshiftB | rshiftB | ctrlB | capsB | altB | f1B | f2B | f3B | f4B | f5B | f6B | f7B | f8B
  | f9B | f10B | f11B | f12B | kp0B | kp1B | kp2B | kp3B | kp4B | kp5B | kp6B | kp7B | kp8B | kp9B | kpdotB | kpstarB
  | kpminusB | kpplusB => exact exists_classify_of_plainBreak hkm (by simp [plainKeys])
  | upM | downM | rightM | leftM | insM | delM | homeM | endM | pgupM | pgdnM | kpenterM | kpslashM | raltM | rctrlM
  | lwinM | rwinM | menuM | prtsc1M | prtsc2M => exact exists_classify_of_extendedMake hkm (by simp [extendedKeys])
  | upB | downB | rightB | leftB | insB | delB | homeB | endB | pgupB | pgdnB | kpenterB | kpslashB | raltB | rctrlB
  | lwinB | rwinB | menuB | prtsc1B | prtsc2B => exact exists_classify_of_extendedBreak hkm (by simp [extendedKeys])
  | keyM c =>
    obtain ⟨hfree, hother⟩ : c ∉ Config.idleBytes ∧ c ∉ km.plainCodes := by simpa [Instr.wf] using hi
    exact ⟨.idle, c, (classifyFirst_of_not_mem km hfree).trans
      (congrArg Reading.unit (unitOfCode_of_not_mem _ false hother))⟩
  | keyB c =>
    have hother : c ∉ km.plainCodes := by simpa [Instr.wf] using hi
    exact ⟨.rel, c, congrArg Reading.unit (unitOfCode_of_not_mem _ true hother)⟩
  | xkeyM c =>
    obtain ⟨hF0, hother⟩ : c ≠ 0xF0 ∧ c ∉ km.extendedCodes := by simpa [Instr.wf] using hi
    exact ⟨.ext, c, (if_neg hF0).trans (congrArg Reading.unit (unitOfCode_of_not_mem _ false hother))⟩
  | xkeyB c =>
    have hother : c ∉ km.extendedCodes := by simpa [Instr.wf] using hi
    exact ⟨.extRel, c, congrArg Reading.unit (unitOfCode_of_not_mem _ true hother)⟩

end

/-- The bytes `bytes` bring the decoder from phase `p` to phase `q` within one unit. -/
inductive ReadsTo (km : KeyMap) : Phase → List Byte → Phase → Prop where
  | nil (p : Phase) : ReadsTo km p [] p
  | cons {p p' q : Phase} {b : Byte} {bytes : List Byte} (hb : classify km p b = .awaiting p')
      (hbytes : ReadsTo km p' bytes q) : ReadsTo km p (b :: bytes) q

theorem readsTo_bytesRead (km : KeyMap) {q : Phase} (hboot : q ≠ .boot) : ReadsTo km .idle q.bytesRead q := by
  cases q with
  | boot => exact absurd rfl hboot
  | idle => exact .nil _
  | rel | ext | p1 => exact .cons rfl (.nil _)
  | extRel | p2 => exact .cons rfl (.cons rfl (.nil _))
  | p3 => exact .cons rfl (.cons rfl (.cons rfl (.nil _)))
  | p4 => exact .cons rfl (.cons rfl (.cons rfl (.cons rfl (.nil _))))
  | p5 => exact .cons rfl (.cons rfl (.cons rfl (.cons rfl (.cons rfl (.nil _)))))
  | p6 => exact .cons rfl (.cons rfl (.cons rfl (.cons rfl (.cons rfl (.cons rfl (.nil _))))))
  | p7 => exact .cons rfl (.cons rfl (.cons rfl (.cons rfl (.cons rfl (.cons rfl (.cons rfl (.nil _)))))))

theorem ReadsTo.decodeFrom_append {km : KeyMap} {p q : Phase} {bytes : List Byte} (h : ReadsTo km p bytes q)
    (more : List Byte) : decodeFrom km p (bytes ++ more) = decodeFrom km q more := by
  induction h with
  | nil => rfl
  | cons hb _ ih => rw [List.cons_append, decodeFrom, hb]; exact ih

/-- A well-formed unit's bytes: those that lead to the phase in which its last byte is awaited, and that byte. -/
theorem encode_split {km : KeyMap} {i : Instr} (hkm : km.wf = true) (hi : i.wf km = true) :
    ∃ q b, q ≠ .boot ∧ classify km q b = .unit i ∧ encode km i = q.bytesRead ++ [b] := by
  obtain ⟨q, b, hunit⟩ := exists_classify_of_wf hkm hi
  have hfits := readingFits_classify km q b
  rw [hunit] at hfits
  exact ⟨q, b, Machine.ne_boot_of_classify_unit hunit, hunit, hfits.1⟩

/-- Settles O36. -/
theorem decodeOfEncode : Obligations.DecodeOfEncode := by
  intro km i rest hkm hi
  obtain ⟨q, b, hboot, hunit, hencode⟩ := encode_split hkm hi
  calc decode km (encode km i ++ rest) = decodeFrom km .idle (q.bytesRead ++ b :: rest) := by
        rw [hencode, List.append_assoc]; rfl
    _ = decodeFrom km q (b :: rest) := (readsTo_bytesRead km hboot).decodeFrom_append _
    _ = .unit i rest := by rw [decodeFrom, hunit]

end Sys2Proof
end

section
/-! PROOF. A unit's bytes, waiting in RawKeySource, run the unit (30_encoding.md R80, R82; 20_memory.md R51). -/

namespace Sys2Proof.Machine

theorem runSteps_one (s : State) : runSteps 1 s = step s := by
  rw [runSteps]
  cases step s <;> rfl

theorem ne_boot_of_classify_awaiting {km : KeyMap} {p q : Phase} {b : Byte} (h : classify km p b = .awaiting q) :
    p ≠ .boot := by
  rintro rfl
  simp [classify] at h

/-- `s` with `n` raw bytes taken, `left` remaining, and the decoder in phase `p`. -/
def State.readTo (s : State) (n : Nat) (left : List Byte) (p : Phase) : State :=
  { s.taken n left with phase := phaseBits p }

@[simp] theorem readTo_par (s : State) (n : Nat) (left : List Byte) (p : Phase) : (s.readTo n left p).par = s.par := rfl

theorem readTo_readTo (s : State) (j k : Nat) (left left' : List Byte) (p q : Phase) :
    (s.readTo j left p).readTo k left' q = s.readTo (j + k) left' q := by
  simp [State.readTo, State.taken, Nat.add_assoc]

theorem holds_readTo {s : State} {p : Phase} {bytes : List Byte} (h : Holds s p bytes) (n : Nat) (left : List Byte)
    (q : Phase) : Holds (s.readTo n left q) q left := by
  obtain ⟨⟨-, htodo, henv⟩, hstalled, -⟩ := h
  exact ⟨⟨rfl, htodo, henv⟩, hstalled, rfl⟩

/-- A byte that goes on within a unit is taken and moves the phase. -/
theorem step_of_awaiting {s : State} {p q : Phase} {b : Byte} {rest : List Byte} (h : Holds s p (b :: rest))
    (hb : classify s.par.keymap p b = .awaiting q) : step s = .next (s.readTo 1 rest q) := by
  have htodo : s.todo = [] := h.1.2.1
  calc step s = byteStep p b (s.taken 1 rest) := step_of_holds (ne_boot_of_classify_awaiting hb) h
    _ = .next ((s.taken 1 rest).perform [.enter q]) := byteStep_of_awaiting hb
    _ = .next (s.readTo 1 rest q) := by
        rw [perform_of_todo_nil (s := s.taken 1 rest) htodo]
        simp [State.setPhase, State.readTo, State.taken, htodo]

/-- A byte that completes a unit is taken, and the unit runs. -/
theorem step_of_completing {s : State} {p : Phase} {b : Byte} {rest : List Byte} {i : Instr} (h : Holds s p (b :: rest))
    (hb : classify s.par.keymap p b = .unit i) : step s = exec i (s.readTo 1 rest p) := by
  have hphase : s.phase = phaseBits p := h.1.1
  calc step s = byteStep p b (s.taken 1 rest) := step_of_holds (ne_boot_of_classify_unit hb) h
    _ = exec i (s.taken 1 rest) := byteStep_of_unit hb
    _ = exec i (s.readTo 1 rest p) := by rw [State.readTo, ← hphase]; rfl

theorem lastByte_of_readsTo {km : KeyMap} {p q : Phase} {bytes : List Byte} {b : Byte} {i : Instr}
    (h : ReadsTo km p bytes q) (hunit : classify km q b = .unit i) : lastByte km p (bytes ++ [b]) = (q, [b]) := by
  induction h with
  | nil => simp [lastByte, hunit]
  | cons hb _ ih => rw [List.cons_append, lastByte, hb]; exact ih hunit

/-- As many steps as bytes, where the last byte completes a unit, are the unit's meaning. -/
theorem runSteps_of_readsTo {km : KeyMap} {p q : Phase} {bytes rest : List Byte} {b : Byte} {i : Instr}
    (h : ReadsTo km p bytes q) (hunit : classify km q b = .unit i) {s : State} (hkm : s.par.keymap = km)
    (hholds : Holds s p (bytes ++ b :: rest)) :
    runSteps (bytes.length + 1) s = exec i (s.readTo (bytes.length + 1) rest q) := by
  induction h generalizing s with
  | nil p => exact (runSteps_one s).trans (step_of_completing hholds (hkm ▸ hunit))
  | @cons p p' q c bytes hb _ ih =>
    calc runSteps (bytes.length + 1 + 1) s = runSteps (bytes.length + 1) (s.readTo 1 (bytes ++ b :: rest) p') :=
          runSteps_succ (step_of_awaiting hholds (hkm ▸ hb))
      _ = exec i ((s.readTo 1 (bytes ++ b :: rest) p').readTo (bytes.length + 1) rest q) :=
          ih hunit hkm (holds_readTo hholds 1 _ p')
      _ = exec i (s.readTo (bytes.length + 1 + 1) rest q) := by rw [readTo_readTo, Nat.add_comm 1]

/-- Settles O42: the unit's bytes but the last lead to the phase in which the last is awaited. -/
theorem unitBytesRunTheUnit : Obligations.UnitBytesRunTheUnit := by
  intro s i rest hkm hi hholds
  obtain ⟨q, b, hboot, hunit, hencode⟩ := encode_split hkm hi
  have hreads := readsTo_bytesRead s.par.keymap hboot
  rw [hencode, List.append_assoc] at hholds
  rw [hencode, lastByte_of_readsTo hreads hunit, List.length_append]
  exact runSteps_of_readsTo hreads hunit rfl hholds

end Sys2Proof.Machine
end

section
/-! PROOF. What a unit replies (00_scope.md R11): the modifiers it leaves, the bytes it sends, the events it logs, one
lemma per kind of unit. -/

namespace Sys2Proof.Machine

/-- The diagnostic events of a list of primitives, in order. -/
def diagEvents : List Action → List DiagEvent
  | [] => []
  | .tx _ :: rest => diagEvents rest
  | .diag e :: rest => e :: diagEvents rest
  | .enter _ :: rest => diagEvents rest

/-- Sends and events, once acknowledged, append to OUT and to DIAG. -/
theorem appliedAll_of_writesNoPhase {acts : List Action} (h : WritesNoPhase acts) (s : State) :
    appliedAll acts s = { s with out := s.out ++ txBytes acts, diag := s.diag ++ diagEvents acts } := by
  induction acts generalizing s with
  | nil => simp [appliedAll, txBytes, diagEvents]
  | cons a rest ih =>
    have hrest : WritesNoPhase rest := fun p hp => h p (List.mem_cons_of_mem a hp)
    rw [appliedAll, ih hrest]
    cases a with
    | tx b => simp [Action.applied, txBytes, diagEvents]
    | diag e => simp [Action.applied, txBytes, diagEvents]
    | enter p => exact absurd List.mem_cons_self (h p)

/-- The outcome of a unit on `s` that comes to the reply `r`: `CompletesWith`, said of the outcome. -/
def Replies (s : State) (r : Reply) (o : Host.Outcome State Fault Refusal) : Prop :=
  ∃ t, o = .next t ∧ t.out = s.out ∧
    t.settle = { s with phase := phaseBits .idle, m := r.m, out := s.out ++ r.out, diag := s.diag ++ r.diag }

theorem completesWith_iff_replies (i : Instr) (s : State) (r : Reply) :
    CompletesWith i s r.m r.out r.diag ↔ Replies s r (exec i s) := Iff.rfl

theorem txBytes_txEsc (cs : List Byte) : txBytes (txEsc cs) = escBytes cs := by
  have hmap : txBytes (cs.map .tx) = cs := by
    induction cs with
    | nil => rfl
    | cons c rest ih => rw [List.map_cons, txBytes, ih]
  rw [txEsc, txBytes, hmap, escBytes]

theorem diagEvents_txEsc (cs : List Byte) : diagEvents (txEsc cs) = [] := by
  rw [txEsc, diagEvents]
  induction cs with
  | nil => rfl
  | cons c rest ih => exact ih

theorem txBytes_onMake (release : Bool) (acts : List Action) :
    txBytes (onMake release acts) = pressOnly release (txBytes acts) := by cases release <;> rfl

theorem diagEvents_onMake (release : Bool) (acts : List Action) :
    diagEvents (onMake release acts) = pressOnly release (diagEvents acts) := by cases release <;> rfl

theorem pressOnly_nil {α : Type} (release : Bool) : pressOnly release ([] : List α) = [] := by cases release <;> rfl

section
variable {s : State} (ht : s.todo = [])
include ht

theorem completeUnit_replies {r : Reply} {acts : List Action} (h : WritesNoPhase acts) (hout : txBytes acts = r.out)
    (hdiag : diagEvents acts = r.diag) : Replies s r (completeUnit acts { s with m := r.m }) := by
  have hsettle : (runActions (.enter .idle :: acts) { s with m := r.m }).settle =
      { s with phase := phaseBits .idle, m := r.m, out := s.out ++ r.out, diag := s.diag ++ r.diag } := by
    rw [runActions_settle, appliedAll, appliedAll_of_writesNoPhase h, hout, hdiag, Action.applied, State.setPhase]
    simp only [ht]
  refine ⟨_, congrArg Host.Outcome.next (perform_of_todo_nil (s := { s with m := r.m }) ht _), ?_, hsettle⟩
  rw [runActions_out]

variable (code : Byte) (release : Bool)

/-- A unit that only logs. -/
theorem completeUnit_logs (e : DiagEvent) : Replies s ⟨s.m, [], [e]⟩ (completeUnit [.diag e] s) :=
  completeUnit_replies (r := ⟨s.m, [], [e]⟩) ht (writesNoPhase_diag e) rfl rfl

/-- A unit that logs on press only. -/
theorem completeUnit_logs_onMake (e : DiagEvent) :
    Replies s ⟨s.m, [], pressOnly release [e]⟩ (completeUnit (onMake release [.diag e]) s) :=
  completeUnit_replies (r := ⟨s.m, [], pressOnly release [e]⟩) ht (writesNoPhase_onMake release (writesNoPhase_diag e))
    (by rw [txBytes_onMake]; exact pressOnly_nil release) (diagEvents_onMake release _)

/-- A unit that sends on press only. -/
theorem completeUnit_sends_onMake {acts : List Action} {bytes : List Byte} (h : WritesNoPhase acts)
    (hbytes : txBytes acts = bytes) (hdiag : diagEvents acts = []) :
    Replies s ⟨s.m, pressOnly release bytes, []⟩ (completeUnit (onMake release acts) s) :=
  completeUnit_replies (r := ⟨s.m, pressOnly release bytes, []⟩) ht (writesNoPhase_onMake release h)
    (by rw [txBytes_onMake, hbytes]) (by rw [diagEvents_onMake, hdiag, pressOnly_nil])

theorem completeUnit_escapes_onMake (cs : List Byte) :
    Replies s ⟨s.m, pressOnly release (escBytes cs), []⟩ (completeUnit (onMake release (txEsc cs)) s) :=
  completeUnit_sends_onMake ht release (writesNoPhase_txEsc cs) (txBytes_txEsc cs) (diagEvents_txEsc cs)

/-- A unit that writes the modifiers and does nothing else. -/
theorem completeUnit_writes (m' : Modifiers) : Replies s ⟨m', [], []⟩ (completeUnit [] { s with m := m' }) :=
  completeUnit_replies (r := ⟨m', [], []⟩) ht writesNoPhase_nil rfl rfl

theorem levelKey_replies (r : ModReg) : Replies s ⟨s.m.set r (!release), [], []⟩ (levelKey r release s) :=
  completeUnit_writes ht _

theorem toggleKey_replies : Replies s ⟨s.m.toggled release, [], []⟩ (toggleKey release s) := by
  cases release with
  | false => exact completeUnit_writes ht _
  | true => exact completeUnit_writes ht s.m

theorem controlKey_replies :
    Replies s ⟨if s.opt.sw then s.m.toggled release else s.m.set .CT (!release), [], []⟩ (controlKey release s) := by
  unfold controlKey
  split_ifs
  · exact toggleKey_replies ht release
  · exact levelKey_replies ht release .CT

theorem capsKey_replies :
    Replies s ⟨if s.opt.sw then s.m.set .CT (!release) else s.m.toggled release, [], []⟩ (capsKey release s) := by
  unfold capsKey
  split_ifs
  · exact levelKey_replies ht release .CT
  · exact toggleKey_replies ht release

theorem keypadExtra_replies (escape : List Byte) (plain : Byte) :
    Replies s ⟨s.m, pressOnly release (if s.opt.ak then escBytes escape else [plain]), []⟩
      (keypadExtra escape plain release s) := by
  unfold keypadExtra
  split_ifs
  · exact completeUnit_escapes_onMake ht release escape
  · exact completeUnit_sends_onMake ht release (writesNoPhase_tx plain) rfl rfl

/-- Stages 6 and 7: the ASCII stage, else UnknownKey (44_ascii.md R261 to R265). -/
theorem asciiUnit_replies (ext : Bool) :
    Replies s (firstHandled [asciiStage s.rom s.m ⟨code, release, ext⟩] (unknownStage s.m ⟨code, release, ext⟩))
      (asciiUnit code release s) := by
  unfold asciiUnit asciiActions asciiStage
  simp only
  split_ifs
  · exact completeUnit_logs ht _
  · exact completeUnit_sends_onMake ht release (writesNoPhase_tx _) rfl rfl

end

end Sys2Proof.Machine
end

section
/-! PROOF. The units of the opcode map, taken in the order of the dispatch stages, agree with Dispatch (30_encoding.md
R91 to R96). -/

namespace Sys2Proof

theorem unitOfCode_nil (other : Instr) (c : Byte) (release : Bool) : unitOfCode [] other c release = other := rfl

theorem unitOfCode_append (rows rows' : List KeyRow) (other : Instr) (c : Byte) (release : Bool) :
    unitOfCode (rows ++ rows') other c release = unitOfCode rows (unitOfCode rows' other c release) c release := by
  induction rows with
  | nil => rfl
  | cons r rest ih =>
    obtain ⟨code, make, brk⟩ := r
    rw [List.cons_append, unitOfCode, unitOfCode, ih]

/-- The first row with the code is the one the position search finds. -/
theorem unitOfCode_findIdx?_cases (rows : List KeyRow) (other : Instr) (c : Byte) (release : Bool) :
    ((rows.map (·.1)).findIdx? (fun k => c == k) = none ∧ unitOfCode rows other c release = other) ∨
    ∃ d, ∃ h : d < rows.length, (rows.map (·.1)).findIdx? (fun k => c == k) = some d ∧ c = rows[d].1 ∧
      unitOfCode rows other c release = if release then rows[d].2.2 else rows[d].2.1 := by
  induction rows with
  | nil => exact .inl ⟨rfl, rfl⟩
  | cons r rest ih =>
    obtain ⟨code, make, brk⟩ := r
    rw [unitOfCode, List.map_cons, List.findIdx?_cons]
    by_cases hc : c = code
    · exact .inr ⟨0, by simp, by simp [hc], hc, by simp [hc]⟩
    · obtain ⟨hnone, hunit⟩ | ⟨d, hd, hsome, hcode, hunit⟩ := ih
      · exact .inl (by simp [hc, hnone, hunit])
      · exact .inr ⟨d + 1, by simpa using hd, by simp [hc, hsome], hcode, by simp [hc, hunit]⟩

/-- Stage 1. -/
def lockKeys : List KeyRow := [(0x77, .numlockM, .numlockB), (0x7E, .scrlockM, .scrlockB)]

/-- Stage 2. -/
def modifierKeys : List KeyRow :=
  [(0x12, .lshiftM, .lshiftB), (0x59, .rshiftM, .rshiftB), (0x14, .ctrlM, .ctrlB), (0x58, .capsM, .capsB),
   (0x11, .altM, .altB)]

/-- Stage 3. -/
def functionKeys (km : KeyMap) : List KeyRow :=
  [(km.f1, .f1M, .f1B), (km.f2, .f2M, .f2B), (km.f3, .f3M, .f3B), (km.f4, .f4M, .f4B), (km.f5, .f5M, .f5B),
   (km.f6, .f6M, .f6B), (km.f7, .f7M, .f7B), (km.f8, .f8M, .f8B), (km.f9, .f9M, .f9B), (km.f10, .f10M, .f10B),
   (km.f11, .f11M, .f11B), (km.f12, .f12M, .f12B)]

/-- Stage 4, the keys of KP_DIGIT. -/
def digitKeys (km : KeyMap) : List KeyRow :=
  [(km.kp0, .kp0M, .kp0B), (km.kp1, .kp1M, .kp1B), (km.kp2, .kp2M, .kp2B), (km.kp3, .kp3M, .kp3B),
   (km.kp4, .kp4M, .kp4B), (km.kp5, .kp5M, .kp5B), (km.kp6, .kp6M, .kp6B), (km.kp7, .kp7M, .kp7B),
   (km.kp8, .kp8M, .kp8B), (km.kp9, .kp9M, .kp9B), (km.kpDot, .kpdotM, .kpdotB)]

/-- Stage 4, the other keys. -/
def operatorKeys (km : KeyMap) : List KeyRow :=
  [(km.kpStar, .kpstarM, .kpstarB), (km.kpMinus, .kpminusM, .kpminusB), (km.kpPlus, .kpplusM, .kpplusB)]

theorem plainKeys_eq (km : KeyMap) : plainKeys km =
    lockKeys ++ (modifierKeys ++ (functionKeys km ++ (digitKeys km ++ operatorKeys km))) := rfl

/-- The arrow keys (41_extended.md section 2). -/
def arrowKeys (km : KeyMap) : List KeyRow :=
  [(km.xcUp, .upM, .upB), (km.xcDown, .downM, .downB), (km.xcRight, .rightM, .rightB), (km.xcLeft, .leftM, .leftB)]

/-- The editing keypad (41_extended.md section 3). -/
def editingKeys (km : KeyMap) : List KeyRow :=
  [(km.xcIns, .insM, .insB), (km.xcDel, .delM, .delB), (km.xcHome, .homeM, .homeB), (km.xcEnd, .endM, .endB),
   (km.xcPgup, .pgupM, .pgupB), (km.xcPgdn, .pgdnM, .pgdnB)]

/-- Keypad Enter and keypad "/" (41_extended.md section 4). -/
def extraKeypadKeys (km : KeyMap) : List KeyRow :=
  [(km.xcKpenter, .kpenterM, .kpenterB), (km.xcKpslash, .kpslashM, .kpslashB)]

/-- Right Alt and right Control (41_extended.md section 5). -/
def extendedModifierKeys (km : KeyMap) : List KeyRow :=
  [(km.xcRalt, .raltM, .raltB), (km.xcRctrl, .rctrlM, .rctrlB)]

/-- Windows and Menu (41_extended.md section 6). -/
def windowsKeys (km : KeyMap) : List KeyRow :=
  [(km.xcLwin, .lwinM, .lwinB), (km.xcRwin, .rwinM, .rwinB), (km.xcMenu, .menuM, .menuB)]

/-- The Print-Screen halves (41_extended.md section 7). -/
def printScreenKeys (km : KeyMap) : List KeyRow :=
  [(km.xcPrtsc1, .prtsc1M, .prtsc1B), (km.xcPrtsc2, .prtsc2M, .prtsc2B)]

theorem extendedKeys_eq (km : KeyMap) : extendedKeys km =
    arrowKeys km ++ (editingKeys km ++ (extraKeypadKeys km ++ (extendedModifierKeys km ++ (windowsKeys km ++
    printScreenKeys km)))) := rfl

end Sys2Proof

namespace Sys2Proof.Machine

/-- The units of every row run as `f` of the row's code. -/
def RunAs (rows : List KeyRow) (release : Bool) (s : State) (f : Byte → Host.Outcome State Fault Refusal) : Prop :=
  rows.Forall fun row => exec (if release then row.2.2 else row.2.1) s = f row.1

theorem runAs_iff {rows : List KeyRow} {release : Bool} {s : State} {f : Byte → Host.Outcome State Fault Refusal} :
    RunAs rows release s f ↔ ∀ row ∈ rows, exec (if release then row.2.2 else row.2.1) s = f row.1 :=
  List.forall_iff_forall_mem

section
variable (release : Bool) (s : State)

theorem lockKeys_runAs : RunAs lockKeys release s (lockKey · release s) := by
  cases release <;> exact ⟨rfl, rfl⟩

theorem functionKeys_runAs : RunAs (functionKeys s.par.keymap) release s (functionKey · release s) := by
  cases release <;> exact ⟨rfl, rfl, rfl, rfl, rfl, rfl, rfl, rfl, rfl, rfl, rfl, rfl⟩

theorem editingKeys_runAs : RunAs (editingKeys s.par.keymap) release s (editingKey · release s) := by
  cases release <;> exact ⟨rfl, rfl, rfl, rfl, rfl, rfl⟩

theorem extendedModifierKeys_runAs :
    RunAs (extendedModifierKeys s.par.keymap) release s (extendedModifier · release s) := by
  cases release <;> exact ⟨rfl, rfl⟩

theorem windowsKeys_runAs : RunAs (windowsKeys s.par.keymap) release s (windowsKey · release s) := by
  cases release <;> exact ⟨rfl, rfl, rfl⟩

theorem printScreenKeys_runAs : RunAs (printScreenKeys s.par.keymap) release s (printScreenHalf · release s) := by
  cases release <;> exact ⟨rfl, rfl⟩

theorem keypadKey_of_ak_false {s : State} (h : s.opt.ak = false) (code : Byte) (acts : List Action) (release : Bool) :
    keypadKey code acts release s = asciiUnit code release s := if_neg (by simp [h])

theorem keypadKey_of_ak_true {s : State} (h : s.opt.ak = true) (code : Byte) (acts : List Action) (release : Bool) :
    keypadKey code acts release s = completeUnit (onMake release acts) s := if_pos h

/-- With opt.AK = 0 every keypad key is an ordinary key (43_keypad.md R247). -/
theorem keypadKeys_runAs_asciiUnit (hak : s.opt.ak = false) :
    RunAs (digitKeys s.par.keymap ++ operatorKeys s.par.keymap) release s (asciiUnit · release s) := by
  have hkey := keypadKey_of_ak_false hak
  cases release <;> exact ⟨hkey _ _ _, hkey _ _ _, hkey _ _ _, hkey _ _ _, hkey _ _ _, hkey _ _ _, hkey _ _ _,
    hkey _ _ _, hkey _ _ _, hkey _ _ _, hkey _ _ _, hkey _ _ _, hkey _ _ _, hkey _ _ _⟩

theorem exec_digitKeys (d : Nat) (h : d < (digitKeys s.par.keymap).length) :
    exec (if release then (digitKeys s.par.keymap)[d].2.2 else (digitKeys s.par.keymap)[d].2.1) s =
      keypadDigit (digitKeys s.par.keymap)[d].1 d release s := by
  have hd : d < 11 := h
  interval_cases d <;> cases release <;> rfl

end

section
variable {s : State} {c : Byte} {release : Bool} {rows : List KeyRow} {other : Instr}

/-- The unit of a code is that of a row with the code, or `other` when no row has it. -/
theorem replies_unitOfCode {r : Reply}
    (hrow : ∀ row ∈ rows, c = row.1 → Replies s r (exec (if release then row.2.2 else row.2.1) s))
    (hother : (∀ row ∈ rows, c ≠ row.1) → Replies s r (exec other s)) :
    Replies s r (exec (unitOfCode rows other c release) s) := by
  obtain ⟨hunit, hn⟩ | ⟨row, hmem, hcode, hunit⟩ := unitOfCode_cases rows other c release
  · rw [hunit]
    exact hother hn
  · rw [hunit]
    exact hrow row hmem hcode

/-- A branch of the dispatch on the codes of some rows agrees with the units of these rows. -/
theorem replies_ite {P : Prop} [Decidable P] {r r' : Reply} {f : Byte → Host.Outcome State Fault Refusal}
    (hP : P ↔ c ∈ rows.map (·.1)) (hrun : RunAs rows release s f) (hf : Replies s r (f c))
    (hother : Replies s r' (exec other s)) :
    Replies s (if P then r else r') (exec (unitOfCode rows other c release) s) := by
  refine replies_unitOfCode (fun row hmem hcode => ?_) fun hn => ?_
  · rw [if_pos (hP.mpr (List.mem_map.mpr ⟨row, hmem, hcode.symm⟩)), runAs_iff.mp hrun row hmem, ← hcode]
    exact hf
  · have hnot : ¬P := fun h => by
      obtain ⟨row, hmem, hcode⟩ := List.mem_map.mp (hP.mp h)
      exact hn row hmem hcode.symm
    rwa [if_neg hnot]

/-- `replies_ite` for one row. -/
theorem replies_ite_row {r r' : Reply} {code : Byte} {make brk : Instr} {o : Host.Outcome State Fault Refusal}
    (hrun : exec (if release then brk else make) s = o) (ho : Replies s r o)
    (hother : Replies s r' (exec (unitOfCode rows other c release) s)) :
    Replies s (if c = code then r else r') (exec (unitOfCode ((code, make, brk) :: rows) other c release) s) := by
  rw [unitOfCode]
  by_cases hc : c = code
  · rw [if_pos hc, if_pos hc, hrun]
    exact ho
  · rw [if_neg hc, if_neg hc]
    exact hother

theorem firstHandled_ite {P : Prop} [Decidable P] (r last : Reply) (stage : Option Reply)
    (stages : List (Option Reply)) : firstHandled ((if P then some r else stage) :: stages) last =
      if P then r else firstHandled (stage :: stages) last := by
  split_ifs <;> rfl

end

/-- In application mode the Num-Lock variant is swallowed (43_keypad.md R246). -/
theorem ordinaryKey_of_claimed {code : Byte} (release : Bool) {s : State} (hak : s.opt.ak = true)
    (hcode : code = s.par.keymap.kpNumLk) : ordinaryKey code release s = completeUnit [] s :=
  if_pos (by simp [hak, hcode])

/-- Stage 2 acts on the code after the swap as the unit of the code before it (42_locks_modifiers_fkeys.md R193 to
R199). -/
theorem modifierStage_of_mem {row : KeyRow} (h : row ∈ modifierKeys) (opt : Options) (m : Modifiers)
    (release ext : Bool) : modifierStage opt m ⟨row.1, release, ext⟩ =
      some ⟨modifiersAfter opt.sw m (if release then row.2.2 else row.2.1), [], []⟩ := by
  obtain ⟨ak, sw⟩ := opt
  simp only [modifierKeys, List.mem_cons, List.not_mem_nil, or_false] at h
  obtain rfl | rfl | rfl | rfl | rfl := h <;> cases sw <;> cases release <;> rfl

theorem swapCode_of_ne {c : Byte} (sw : Bool) (hcaps : c ≠ 0x58) (hctrl : c ≠ 0x14) : swapCode sw c = c := by
  simp only [swapCode, Bool.and_eq_true, beq_iff_eq, hcaps, hctrl, and_false, if_false]

theorem modifierStage_eq_none {c : Byte} (h : ∀ row ∈ modifierKeys, c ≠ row.1) (opt : Options) (m : Modifiers)
    (release ext : Bool) : modifierStage opt m ⟨c, release, ext⟩ = none := by
  simp only [modifierKeys, List.forall_mem_cons] at h
  obtain ⟨hlshift, hrshift, hctrl, hcaps, halt, -⟩ := h
  simp only [modifierStage, swapCode_of_ne opt.sw hcaps hctrl, if_neg hlshift, if_neg hrshift, if_neg hctrl,
    if_neg hcaps, if_neg halt]

theorem keypadStage_of_ak_false (km : KeyMap) {opt : Options} (hak : opt.ak = false) (m : Modifiers) (ev : KeyEvent) :
    keypadStage km opt m ev = none := if_neg (by simp [hak])

theorem keypadStage_of_digit (km : KeyMap) {opt : Options} (hak : opt.ak = true) (m : Modifiers) {ev : KeyEvent}
    {d : Nat} (hd : kpDigit km ev.code = some d) : keypadStage km opt m ev =
      some ⟨m, pressOnly ev.release (escBytes [asciiQuery, keypadLetter d]), []⟩ := by
  simp only [keypadStage, hd, if_pos hak]
  rfl

/-- Stage 4 for a code that is no digit's. -/
theorem keypadStage_of_not_digit (km : KeyMap) {opt : Options} (hak : opt.ak = true) (m : Modifiers) {ev : KeyEvent}
    (hd : kpDigit km ev.code = none) : keypadStage km opt m ev =
      if ev.code = km.kpStar then some ⟨m, pressOnly ev.release (escBytes [asciiUpperQ]), []⟩
      else if ev.code = km.kpMinus then some ⟨m, pressOnly ev.release (escBytes [asciiUpperR]), []⟩
      else if ev.code = km.kpPlus then some ⟨m, pressOnly ev.release [], []⟩
      else if ev.code = km.kpNumLk then some ⟨m, pressOnly ev.release [], []⟩
      else none := by
  simp only [keypadStage, hd, if_pos hak, ite_or]

section
variable {s : State} (ht : s.todo = []) (c : Byte) (release ext : Bool)
include ht

/-- The extended stage, branch by branch (41_extended.md R150 to R170). -/
theorem extendedUnit_replies : Replies s (extendedStage s.par.keymap s.opt s.m ⟨c, release, ext⟩)
    (exec (extendedUnit s.par.keymap c release) s) := by
  have harrow : ∀ letter, Replies s ⟨s.m, pressOnly release (escBytes [letter]), []⟩ (arrowKey letter release s) :=
    fun letter => completeUnit_escapes_onMake ht release [letter]
  have hextra := keypadExtra_replies ht release
  rw [extendedUnit, extendedKeys_eq]
  simp only [unitOfCode_append, extendedStage]
  refine replies_ite_row (by cases release <;> rfl) (harrow asciiUpperA) ?_
  refine replies_ite_row (by cases release <;> rfl) (harrow asciiUpperB) ?_
  refine replies_ite_row (by cases release <;> rfl) (harrow asciiUpperC) ?_
  refine replies_ite_row (by cases release <;> rfl) (harrow asciiUpperD) ?_
  rw [unitOfCode_nil]
  refine replies_ite (by simp [editingKeys]) (editingKeys_runAs release s) (completeUnit_logs ht _) ?_
  refine replies_ite_row (by cases release <;> rfl) (hextra [asciiQuery, asciiUpperM] asciiCR) ?_
  refine replies_ite_row (by cases release <;> rfl) (hextra [asciiUpperP] asciiSlash) ?_
  rw [unitOfCode_nil]
  refine replies_ite (by simp [extendedModifierKeys]) (extendedModifierKeys_runAs release s) (completeUnit_logs ht _) ?_
  refine replies_ite (by simp [windowsKeys]) (windowsKeys_runAs release s) (completeUnit_logs_onMake ht release _) ?_
  refine replies_ite (by simp [printScreenKeys]) (printScreenKeys_runAs release s) (completeUnit_logs ht _) ?_
  cases release with
  | false => exact completeUnit_logs ht _
  | true => exact completeUnit_logs ht _

theorem modifierKey_replies {row : KeyRow} (h : row ∈ modifierKeys) :
    Replies s ⟨modifiersAfter s.opt.sw s.m (if release then row.2.2 else row.2.1), [], []⟩
      (exec (if release then row.2.2 else row.2.1) s) := by
  simp only [modifierKeys, List.mem_cons, List.not_mem_nil, or_false] at h
  obtain rfl | rfl | rfl | rfl | rfl := h
  · cases release <;> exact levelKey_replies ht _ .LS
  · cases release <;> exact levelKey_replies ht _ .RS
  · cases release <;> exact controlKey_replies ht _
  · cases release <;> exact capsKey_replies ht _
  · cases release <;> exact completeUnit_writes ht s.m

/-- Stages 4 to 7 in application mode (43_keypad.md R230, R231, R246; 44_ascii.md R260 to R265). -/
theorem keypadUnit_replies_of_ak_true (hak : s.opt.ak = true) : Replies s
    (firstHandled [keypadStage s.par.keymap s.opt s.m ⟨c, release, ext⟩, asciiStage s.rom s.m ⟨c, release, ext⟩]
      (unknownStage s.m ⟨c, release, ext⟩))
    (exec (unitOfCode (digitKeys s.par.keymap ++ operatorKeys s.par.keymap) (if release then .keyB c else .keyM c) c
      release) s) := by
  rw [unitOfCode_append]
  obtain ⟨hnone, hunit⟩ | ⟨d, hlt, hsome, -, hunit⟩ := unitOfCode_findIdx?_cases (digitKeys s.par.keymap)
    (unitOfCode (operatorKeys s.par.keymap) (if release then .keyB c else .keyM c) c release) c release
  · have hdigit : kpDigit s.par.keymap c = none := hnone
    rw [hunit, keypadStage_of_not_digit s.par.keymap hak s.m (ev := ⟨c, release, ext⟩) hdigit]
    simp only [firstHandled_ite]
    have hstar := completeUnit_escapes_onMake ht release [asciiUpperQ]
    have hminus := completeUnit_escapes_onMake ht release [asciiUpperR]
    have hplus := completeUnit_sends_onMake ht release writesNoPhase_nil rfl rfl
    refine replies_ite_row (by cases release <;> exact keypadKey_of_ak_true hak _ _ _) hstar ?_
    refine replies_ite_row (by cases release <;> exact keypadKey_of_ak_true hak _ _ _) hminus ?_
    refine replies_ite_row (by cases release <;> exact keypadKey_of_ak_true hak _ _ _) hplus ?_
    rw [unitOfCode_nil, exec_key]
    split_ifs with hlock
    · rw [ordinaryKey_of_claimed release hak hlock, pressOnly_nil]
      exact completeUnit_writes ht s.m
    · rw [ordinaryKey_of_not_claimed release fun h => hlock h.2]
      exact asciiUnit_replies ht c release ext
  · have hdigit : kpDigit s.par.keymap c = some d := hsome
    rw [hunit, exec_digitKeys, keypadDigit, keypadKey_of_ak_true hak,
      keypadStage_of_digit s.par.keymap hak s.m (ev := ⟨c, release, ext⟩) hdigit]
    exact completeUnit_escapes_onMake ht release _

/-- Stages 4 to 7 with opt.AK = 0: the ASCII stage alone (43_keypad.md R247). -/
theorem keypadUnit_replies_of_ak_false (hak : s.opt.ak = false) : Replies s
    (firstHandled [keypadStage s.par.keymap s.opt s.m ⟨c, release, ext⟩, asciiStage s.rom s.m ⟨c, release, ext⟩]
      (unknownStage s.m ⟨c, release, ext⟩))
    (exec (unitOfCode (digitKeys s.par.keymap ++ operatorKeys s.par.keymap) (if release then .keyB c else .keyM c) c
      release) s) := by
  have hascii := asciiUnit_replies ht c release ext
  rw [keypadStage_of_ak_false s.par.keymap hak, firstHandled]
  refine replies_unitOfCode (fun row hmem hcode => ?_) fun _ => ?_
  · rw [runAs_iff.mp (keypadKeys_runAs_asciiUnit release s hak) row hmem, ← hcode]
    exact hascii
  · rw [exec_key, ordinaryKey_of_not_claimed release fun h => by simp [hak] at h]
    exact hascii

/-- Stages 1 to 7 in order. -/
theorem plainUnit_replies : Replies s (dispatch s.par.keymap s.rom s.opt s.m ⟨c, release, false⟩)
    (exec (plainUnit s.par.keymap c release) s) := by
  rw [plainUnit, plainKeys_eq, unitOfCode_append lockKeys, unitOfCode_append modifierKeys,
    unitOfCode_append (functionKeys _), dispatch, if_neg (by simp), lockStage, firstHandled_ite]
  refine replies_ite (by simp [lockKeys]) (lockKeys_runAs release s) (completeUnit_logs_onMake ht release _) ?_
  rw [firstHandled]
  refine replies_unitOfCode (fun row hmem hcode => ?_) fun hn => ?_
  · rw [hcode, modifierStage_of_mem hmem, firstHandled]
    exact modifierKey_replies ht release hmem
  rw [modifierStage_eq_none hn, firstHandled, fkeyStage, firstHandled_ite]
  refine replies_ite Iff.rfl (functionKeys_runAs release s) (completeUnit_logs_onMake ht release _) ?_
  rw [firstHandled]
  cases hak : s.opt.ak with
  | false => exact keypadUnit_replies_of_ak_false ht c release false hak
  | true => exact keypadUnit_replies_of_ak_true ht c release false hak

end

/-- Settles O44: the units of the extended keys agree with ExtendedStage, those of the others with stages 1 to 7. -/
theorem unitsAgreeWithDispatchOrder : Obligations.UnitsAgreeWithDispatchOrder := by
  intro s c release ext ht
  rw [completesWith_iff_replies]
  cases ext with
  | false => exact plainUnit_replies ht c release
  | true => exact extendedUnit_replies ht c release true

end Sys2Proof.Machine
end

section
/-! PROOF. The special units and the Pause unit (40_special_prefix_pause.md R120 to R125, R131): what they reply, and
the steps through a unit's bytes before its last. -/

namespace Sys2Proof.Machine

/-- The outcome of a byte read in `s` that comes to the answer `r` of Step: `Replies` with any next phase. -/
def StepReplies (s : State) (r : StepReply) (o : Host.Outcome State Fault Refusal) : Prop :=
  ∃ t, o = .next t ∧ t.out = s.out ∧
    t.settle = { s with
      phase := phaseBits r.phase, m := r.reply.m, out := s.out ++ r.reply.out, diag := s.diag ++ r.reply.diag }

theorem perform_settle {s : State} (ht : s.todo = []) (acts : List Action) :
    (s.perform acts).settle = appliedAll acts s := by
  rw [perform_of_todo_nil ht, runActions_settle, ← ht]

theorem perform_out (acts : List Action) (s : State) : (s.perform acts).out = s.out := runActions_out _ s

section
variable {s : State} (ht : s.todo = [])
include ht

/-- A byte that goes on within a unit: the phase moves (40_special_prefix_pause.md R126, R128, R131). -/
theorem perform_enter_replies (q : Phase) :
    StepReplies s ⟨q, ⟨s.m, [], []⟩⟩ (.next (s.perform [.enter q])) := by
  refine ⟨_, rfl, perform_out _ s, ?_⟩
  rw [perform_settle ht]
  simp [appliedAll, Action.applied, State.setPhase]

/-- `Diag(e); phase <- IDLE`: the diagnostic-only special units, PAUSE, and a broken-off Pause unit. -/
theorem perform_diag_enter_idle_replies (e : DiagEvent) :
    Replies s ⟨s.m, [], [e]⟩ (.next (s.perform [.diag e, .enter .idle])) := by
  refine ⟨_, rfl, perform_out _ s, ?_⟩
  rw [perform_settle ht]
  simp [appliedAll, Action.applied, State.setPhase]

theorem specialUnit_replies (b : Byte) : Replies s ⟨s.m, [], [.special b]⟩ (specialUnit b s) :=
  perform_diag_enter_idle_replies ht _

theorem execPause_replies : Replies s ⟨s.m, [], [.pause]⟩ (execPause s) := perform_diag_enter_idle_replies ht _

theorem abortPause_replies (k : Nat) (b : Byte) : Replies s ⟨s.m, [], [.pauseAbort k b]⟩ (abortPause k b s) :=
  perform_diag_enter_idle_replies ht _

theorem execSpAA_replies : Replies s ⟨s.m, [s.par.batAckByte], [.special 0xAA]⟩ (execSpAA s) := by
  refine ⟨_, rfl, perform_out _ s, ?_⟩
  rw [perform_settle ht]
  simp [appliedAll, Action.applied, State.setPhase]

end

/-- Primitives that send nothing owe nothing once started. -/
theorem runActions_todo_of_txBytes_nil {acts : List Action} (h : txBytes acts = []) (s : State) :
    (runActions acts s).todo = [] := by
  obtain htodo | ⟨b, rest, htodo⟩ := runActions_todo acts s
  · exact htodo
  · have howed := runActions_owed acts s
    rw [htodo, h] at howed
    cases howed

theorem completeUnit_silent {s : State} (ht : s.todo = []) {acts : List Action} (h : txBytes acts = []) :
    ∃ t, completeUnit acts s = .next t ∧ t.todo = [] ∧ t.out = s.out :=
  ⟨_, congrArg Host.Outcome.next (perform_of_todo_nil ht _),
    runActions_todo_of_txBytes_nil (acts := .enter .idle :: acts) h s, runActions_out _ s⟩

/-- The break of an ordinary key sends nothing: an unknown code is logged, a known one is consumed (44_ascii.md R262,
R265). -/
theorem txBytes_asciiActions_break (rom : Memory) (m : Modifiers) (code : Byte) :
    txBytes (asciiActions rom m code true) = [] := by
  unfold asciiActions
  split_ifs <;> rfl

theorem ordinaryKey_break_silent {s : State} (ht : s.todo = []) (code : Byte) :
    ∃ t, ordinaryKey code true s = .next t ∧ t.todo = [] ∧ t.out = s.out := by
  unfold ordinaryKey
  split_ifs
  · exact completeUnit_silent ht rfl
  · exact completeUnit_silent ht (txBytes_asciiActions_break _ _ _)

/-- Settles O5: each of the five is a `specialUnit`, and the break of code 0x00 is that of an ordinary key. -/
theorem specialUnitsOnlyLog : Obligations.SpecialUnitsOnlyLog := by
  refine ⟨fun p hp s => ?_, fun s ht => ordinaryKey_break_silent ht 0x00⟩
  simp only [List.mem_cons, List.not_mem_nil, or_false] at hp
  obtain rfl | rfl | rfl | rfl | rfl := hp
  all_goals exact ⟨fun ht => specialUnit_replies ht _, rfl, rfl⟩

/-- Settles O6. -/
theorem selfTestByteIsAcknowledged : Obligations.SelfTestByteIsAcknowledged := fun _ =>
  ⟨execSpAA_replies, rfl, rfl, rfl⟩

/-- Settles O7: each of the four bytes is awaited to go on within a unit. -/
theorem prefixBytesMoveOnlyThePhase : Obligations.PrefixBytesMoveOnlyThePhase := by
  intro s rest r hr hholds
  simp only [List.mem_cons, List.not_mem_nil, or_false] at hr
  obtain rfl | rfl | rfl | rfl := hr
  all_goals exact step_of_awaiting hholds rfl

/-- As many steps as bytes, where no byte completes a unit, take the bytes and move the phase. -/
theorem runSteps_within_unit {km : KeyMap} {p q : Phase} {bytes rest : List Byte} (h : ReadsTo km p bytes q)
    {s : State} (hkm : s.par.keymap = km) (hholds : Holds s p (bytes ++ rest)) :
    runSteps bytes.length s = .next (s.readTo bytes.length rest q) := by
  induction h generalizing s with
  | nil p =>
    obtain ⟨⟨hphase, -, -⟩, -, hbuffer⟩ := hholds
    rw [List.length_nil, runSteps_zero, State.readTo, ← hphase, show rest = s.rx.buffer from hbuffer.symm]
    rfl
  | @cons p p' q b bytes hb _ ih =>
    calc runSteps (bytes.length + 1) s = runSteps bytes.length (s.readTo 1 (bytes ++ rest) p') :=
          runSteps_succ (step_of_awaiting hholds (hkm ▸ hb))
      _ = .next ((s.readTo 1 (bytes ++ rest) p').readTo bytes.length rest q) :=
          ih hkm (holds_readTo hholds 1 _ p')
      _ = .next (s.readTo (bytes.length + 1) rest q) := by rw [readTo_readTo, Nat.add_comm 1]

/-- The bytes of the Pause unit (30_encoding.md R80). -/
def pauseBytes : List Byte := [0xE1, 0x14, 0x77, 0xE1, 0xF0, 0x14, 0xF0, 0x77]

theorem encode_pause (km : KeyMap) : encode km .pause = pauseBytes := rfl

/-- Phase P`k` has read the first `k` bytes of the Pause unit. -/
theorem bytesRead_of_mem_pausePhases : ∀ r ∈ pausePhases,
    r.2 ≠ .boot ∧ r.2.bytesRead.length = r.1 ∧ r.2.bytesRead ++ pauseBytes.drop r.1 = pauseBytes := by
  decide

/-- The first `k` bytes of the Pause unit lead to P`k`. -/
theorem runSteps_into_pause {s : State} {rest : List Byte} (h : Holds s .idle (pauseBytes ++ rest)) {r : Nat × Phase}
    (hr : r ∈ pausePhases) : runSteps r.1 s = .next (s.readTo r.1 (s.rx.buffer.drop r.1) r.2) := by
  obtain ⟨hboot, hlength, hsplit⟩ := bytesRead_of_mem_pausePhases r hr
  obtain ⟨hwaits, hstalled, hbuffer⟩ := h
  rw [← hsplit, List.append_assoc] at hbuffer
  have hdrop : s.rx.buffer.drop r.1 = pauseBytes.drop r.1 ++ rest := by
    rw [hbuffer, List.drop_left' hlength]
  have hholds : Holds s .idle (r.2.bytesRead ++ s.rx.buffer.drop r.1) := ⟨hwaits, hstalled, hdrop ▸ hbuffer⟩
  have hrun := runSteps_within_unit (readsTo_bytesRead s.par.keymap hboot) rfl hholds
  rwa [hlength] at hrun

/-- With its eighth byte the Pause unit writes its event and is back in IDLE. -/
theorem runSteps_through_pause {s : State} {rest : List Byte} (h : Holds s .idle (pauseBytes ++ rest)) :
    runSteps 8 s = .next { s.taken 8 rest with diag := s.diag ++ [.pause] } := by
  have ⟨⟨hphase, htodo, _⟩, _⟩ := h
  calc runSteps 8 s = exec .pause (s.readTo 8 rest .p7) :=
        runSteps_of_readsTo (b := 0x77) (readsTo_bytesRead s.par.keymap (q := .p7) nofun) rfl rfl h
    _ = .next (runActions [.diag .pause, .enter .idle] (s.readTo 8 rest .p7)) :=
        congrArg Host.Outcome.next (perform_of_todo_nil (s := s.readTo 8 rest .p7) htodo _)
    _ = .next { s.taken 8 rest with diag := s.diag ++ [.pause] } := by
        simp [State.setPhase, State.readTo, State.taken, htodo, hphase]

/-- Settles O8. -/
theorem pauseUnitRunsThroughItsPhases : Obligations.PauseUnitRunsThroughItsPhases :=
  ⟨fun _ _ h => ⟨fun _ hr => runSteps_into_pause h hr, runSteps_through_pause h⟩,
    fun s => ⟨execPause_replies, encode_pause s.par.keymap⟩⟩

end Sys2Proof.Machine
end

section
/-! PROOF. The machine refines Step (40_special_prefix_pause.md R133): each row of Step's table against the decoder's
reading of the byte, then the step that reads it. -/

namespace Sys2Proof

theorem nextPhase_ne_boot (km : KeyMap) {p : Phase} (b : Byte) (hboot : p ≠ .boot) : nextPhase km p b ≠ .boot := by
  have hfits := readingFits_classify km p b
  rw [nextPhase]
  cases hread : classify km p b with
  | unit i => exact nofun
  | awaiting q =>
    rw [hread] at hfits
    exact hfits.1
  | aborted k => exact nofun
  | notRead => exact hboot

/-- After its first byte, at most seven more bring the decoder back to IDLE (10_state.md R26). -/
theorem exists_return_to_idle (km : KeyMap) {bytes : List Byte} (hlen : bytes.length = 8) :
    ∃ k, 1 ≤ k ∧ k ≤ 8 ∧ (bytes.take k).foldl (nextPhase km) .idle = .idle := by
  obtain ⟨b, rest, rfl⟩ := List.exists_cons_of_length_eq_add_one hlen
  obtain ⟨k, hk, hfold⟩ := decoderReturnsToIdleWithinSevenBytes km (nextPhase km .idle b) rest
    (nextPhase_ne_boot km b nofun) (Nat.succ.inj hlen)
  exact ⟨k + 1, by omega, by omega, hfold⟩

end Sys2Proof

namespace Sys2Proof.Machine

/-- What the answer `r` of Step to the byte `b` in phase `p` must be, given the decoder's reading of the byte. -/
def SpecAgrees (s : State) (p : Phase) (b : Byte) (r : StepReply) : Reading → Prop
  | .unit i => r.phase = .idle ∧ Replies s r.reply (exec i s)
  | .awaiting q => r = ⟨q, ⟨s.m, [], []⟩⟩
  | .aborted k => r = ⟨.idle, ⟨s.m, [], [.pauseAbort k b]⟩⟩
  | .notRead => r = ⟨p, ⟨s.m, [], []⟩⟩

theorem nextPhase_of_specAgrees {s : State} {km : KeyMap} {p : Phase} {b : Byte} {r : StepReply}
    (h : SpecAgrees s p b r (classify km p b)) : r.phase = nextPhase km p b := by
  rw [nextPhase]
  cases hread : classify km p b <;> rw [hread] at h
  case unit i => exact h.1
  all_goals exact congrArg StepReply.phase h

/-- A row of the table for phase P`k`: the byte matches or the unit is broken off. -/
theorem pauseRow_agrees {s : State} {p : Phase} {k : Nat} {b : Byte} {q : Phase} {events : List DiagEvent}
    {matched : Reading} (h : SpecAgrees s p b ⟨q, ⟨s.m, [], events⟩⟩ matched) :
    SpecAgrees s p b (pauseRow s.m k b q events) (classifyPause k b matched) := by
  unfold pauseRow classifyPause
  split_ifs
  · exact h
  · exact rfl

theorem specStep_idle_of_not_mem {par : Params} {rom : Memory} {opt : Options} {m : Modifiers} {b : Byte}
    (h : b ∉ Config.idleBytes) :
    specStep par rom opt .idle m b = ⟨.idle, dispatch par.keymap rom opt m ⟨b, false, false⟩⟩ := by
  simp only [Config.idleBytes, List.mem_cons, List.not_mem_nil, or_false, not_or] at h
  simp only [specStep, List.mem_cons, List.not_mem_nil, h, or_self, if_false]

section
variable {s : State} (ht : s.todo = [])
include ht

/-- The rows for phase IDLE: the nine bytes it treats specially, and the make of a key. -/
theorem specStep_idle_agrees (b : Byte) :
    SpecAgrees s .idle b (specStep s.par s.rom s.opt .idle s.m b) (classifyFirst s.par.keymap b) := by
  by_cases hb : b ∈ Config.idleBytes
  · simp only [Config.idleBytes, List.mem_cons, List.not_mem_nil, or_false] at hb
    obtain rfl | rfl | rfl | rfl | rfl | rfl | rfl | rfl | rfl := hb
    · exact ⟨rfl, specialUnit_replies ht 0xFA⟩
    · exact ⟨rfl, execSpAA_replies ht⟩
    · exact ⟨rfl, specialUnit_replies ht 0xEE⟩
    · exact ⟨rfl, specialUnit_replies ht 0xFE⟩
    · exact ⟨rfl, specialUnit_replies ht 0x00⟩
    · exact ⟨rfl, specialUnit_replies ht 0xFF⟩
    iterate 3 exact rfl
  · rw [classifyFirst_of_not_mem s.par.keymap hb]
    rw [specStep_idle_of_not_mem hb]
    exact ⟨rfl, plainUnit_replies ht b false⟩

/-- Step's table, row by row, agrees with the decoder and with the units' meanings. -/
theorem specStep_agrees (p : Phase) (b : Byte) :
    SpecAgrees s p b (specStep s.par s.rom s.opt p s.m b) (classify s.par.keymap p b) := by
  cases p with
  | boot => exact rfl
  | idle => exact specStep_idle_agrees ht b
  | rel => exact ⟨rfl, plainUnit_replies ht b true⟩
  | ext =>
    simp only [specStep, classify]
    split_ifs
    · exact rfl
    · exact ⟨rfl, extendedUnit_replies ht b false true⟩
  | extRel => exact ⟨rfl, extendedUnit_replies ht b true true⟩
  | p1 | p2 | p3 | p4 | p5 | p6 => exact pauseRow_agrees rfl
  | p7 => exact pauseRow_agrees ⟨rfl, execPause_replies ht⟩

/-- Reading a byte comes to Step's answer. -/
theorem byteStep_replies {p : Phase} (hboot : p ≠ .boot) (b : Byte) :
    StepReplies s (specStep s.par s.rom s.opt p s.m b) (byteStep p b s) := by
  have hagrees := specStep_agrees ht p b
  generalize specStep s.par s.rom s.opt p s.m b = r at hagrees ⊢
  cases hread : classify s.par.keymap p b with
  | unit i =>
    rw [hread] at hagrees
    obtain ⟨hphase, hreplies⟩ := hagrees
    rw [byteStep_of_unit hread, StepReplies, hphase]
    exact hreplies
  | awaiting q =>
    rw [hread] at hagrees
    obtain rfl := hagrees
    rw [byteStep_of_awaiting hread]
    exact perform_enter_replies ht q
  | aborted k =>
    rw [hread] at hagrees
    obtain rfl := hagrees
    rw [byteStep_of_aborted hread]
    exact abortPause_replies ht k b
  | notRead =>
    have hfits := readingFits_classify s.par.keymap p b
    rw [hread] at hfits
    exact absurd hfits hboot

end

/-- Read off a state that holds the given parameters, ROM, options and modifiers and owes nothing. -/
theorem specStep_phase (par : Params) (rom : Memory) (opt : Options) (p : Phase) (m : Modifiers) (b : Byte) :
    (specStep par rom opt p m b).phase = nextPhase par.keymap p b :=
  nextPhase_of_specAgrees
    (specStep_agrees (s := { State.reset with par := par, rom := rom, opt := opt, m := m }) rfl p b)

/-- A step that reads a byte, whatever the script does, comes to Step's answer under the options of that step. -/
theorem step_replies {s : State} {p : Phase} {b : Byte} (hboot : p ≠ .boot) (hphase : s.phase = phaseBits p)
    (ht : s.todo = []) (hread : s.envTick.rx.tryRead = some b) :
    StepReplies s.envTick.consume (specStep s.par s.rom s.envTick.opt p s.m b) (step s) := by
  have hbyte := byteStep_replies (s := s.envTick.consume) (by simpa using ht) hboot b
  rw [step_of_tryRead hboot hphase ht hread]
  simpa using hbyte

theorem bootStep_inPos (s : State) : (bootStep s).inPos = s.inPos := by
  unfold bootStep
  split_ifs
  · exact runActions_inPos _ s
  · rfl

/-- In BOOT no byte is consumed (70_reset_and_hazards.md R311; decision D22). -/
theorem step_of_boot_inPos {s : State} (hphase : s.phase = phaseBits .boot) :
    ∃ t, step s = .next t ∧ t.inPos = s.inPos := by
  by_cases ht : s.todo = []
  · exact ⟨_, step_of_boot hphase ht, (bootStep_inPos _).trans (envTick_inPos s)⟩
  · obtain ⟨t, hstep, hpos, -⟩ := (inputIsConsumedInOrder s .boot hphase).2 ht
    exact ⟨t, hstep, hpos⟩

/-- Settles O43. -/
theorem machineRefinesSpecStep : Obligations.MachineRefinesSpecStep := by
  refine ⟨fun s p b hboot hphase ht hread => ?_, fun s => step_of_boot_inPos, specStep_phase,
    fun km bytes => exists_return_to_idle km⟩
  obtain ⟨t, hstep, hout, hsettle⟩ := step_replies hboot hphase ht hread
  exact ⟨t, hstep, by simpa using hout, by simpa using hsettle⟩

end Sys2Proof.Machine
end

section
/-! PROOF. The extended keys one by one (41_extended.md sections 2 to 8): the reply of each kind of key, on make and on
break. -/

namespace Sys2Proof

theorem extendedUnit_of_not_mem {km : KeyMap} {c : Byte} (hc : c ∉ km.extendedCodes) (release : Bool) :
    extendedUnit km c release = if release then .xkeyB c else .xkeyM c :=
  unitOfCode_of_not_mem _ release hc

end Sys2Proof

namespace Sys2Proof.Machine

section
variable {s : State} (ht : s.todo = []) (code : Byte) (release : Bool)
include ht

theorem arrowKey_replies (letter : Byte) :
    Replies s ⟨s.m, pressOnly release [asciiEsc, letter], []⟩ (arrowKey letter release s) :=
  completeUnit_escapes_onMake ht release [letter]

theorem editingKey_replies : Replies s ⟨s.m, [], [.xedit code release]⟩ (editingKey code release s) :=
  completeUnit_logs ht _

theorem printScreenHalf_replies : Replies s ⟨s.m, [], [.prtsc code release]⟩ (printScreenHalf code release s) :=
  completeUnit_logs ht _

theorem extendedModifier_replies : Replies s ⟨s.m, [], [.xmod code release]⟩ (extendedModifier code release s) :=
  completeUnit_logs ht _

theorem windowsKey_replies :
    Replies s ⟨s.m, [], pressOnly release [.winmenu code]⟩ (windowsKey code release s) :=
  completeUnit_logs_onMake ht release _

theorem unknownExtendedKey_replies :
    Replies s ⟨s.m, [], [.xunknown code release]⟩ (unknownExtendedKey code release s) :=
  completeUnit_logs ht _

end

/-- Settles O10. -/
theorem arrowKeysSendTheirLetters : Obligations.ArrowKeysSendTheirLetters := by
  intro s r hr
  simp only [List.mem_cons, List.not_mem_nil, or_false] at hr
  obtain rfl | rfl | rfl | rfl := hr
  all_goals exact ⟨fun ht => ⟨arrowKey_replies ht false _, arrowKey_replies ht true _⟩, rfl, rfl⟩

/-- Settles O11. -/
theorem editingAndPrintScreenKeysOnlyLog : Obligations.EditingAndPrintScreenKeysOnlyLog := by
  refine fun s => ⟨fun r hr => ?_, fun r hr => ?_⟩ <;> simp only [List.mem_cons, List.not_mem_nil, or_false] at hr
  · obtain rfl | rfl | rfl | rfl | rfl | rfl := hr
    all_goals exact ⟨fun ht => ⟨editingKey_replies ht _ false, editingKey_replies ht _ true⟩, rfl, rfl⟩
  · obtain rfl | rfl := hr
    all_goals exact ⟨fun ht => ⟨printScreenHalf_replies ht _ false, printScreenHalf_replies ht _ true⟩, rfl, rfl⟩

/-- Settles O12: the make's reply branches on opt.AK, the break's is empty for both values. -/
theorem keypadEnterAndSlashFollowTheOption : Obligations.KeypadEnterAndSlashFollowTheOption := by
  intro s r hr
  simp only [List.mem_cons, List.not_mem_nil, or_false] at hr
  obtain rfl | rfl := hr
  all_goals exact ⟨fun ht => ⟨keypadExtra_replies ht false _ _, keypadExtra_replies ht true _ _⟩, rfl, rfl⟩

/-- Settles O13. -/
theorem rightAltAndRightControlLeaveModifiers : Obligations.RightAltAndRightControlLeaveModifiers := by
  intro s r hr
  simp only [List.mem_cons, List.not_mem_nil, or_false] at hr
  obtain rfl | rfl := hr
  all_goals exact ⟨fun ht => ⟨extendedModifier_replies ht _ false, extendedModifier_replies ht _ true⟩, rfl, rfl⟩

/-- Settles O14. -/
theorem windowsAndMenuKeysLogOnPressOnly : Obligations.WindowsAndMenuKeysLogOnPressOnly := by
  intro s r hr
  simp only [List.mem_cons, List.not_mem_nil, or_false] at hr
  obtain rfl | rfl | rfl := hr
  all_goals exact ⟨fun ht => ⟨windowsKey_replies ht _ false, windowsKey_replies ht _ true⟩, rfl, rfl⟩

/-- Settles O15: no row of the extended keys has the code, so the decoder answers the generic unit. -/
theorem otherExtendedCodesAreUnknown : Obligations.OtherExtendedCodesAreUnknown := by
  intro s c hc
  refine ⟨fun ht => ⟨unknownExtendedKey_replies ht c false, unknownExtendedKey_replies ht c true⟩, fun hF0 => ?_, ?_⟩
  · rw [classify, if_neg hF0, extendedUnit_of_not_mem hc]
    rfl
  · rw [classify, extendedUnit_of_not_mem hc]
    rfl

end Sys2Proof.Machine
end

section
/-! PROOF. The break units send nothing (41_extended.md R150; 43_keypad.md R230; 44_ascii.md R262). -/

namespace Sys2Proof

theorem isBreak_plainUnit (km : KeyMap) (c : Byte) : (plainUnit km c true).isBreak = true := by
  obtain ⟨hunit, -⟩ | ⟨r, hr, -, hunit⟩ := unitOfCode_cases (plainKeys km) (.keyB c) c true
  · exact congrArg Instr.isBreak hunit
  · obtain ⟨-, -, -, -, -, -, -, hbreak⟩ := plainKeys_spec km r hr
    exact (congrArg Instr.isBreak hunit).trans hbreak

theorem isBreak_extendedUnit (km : KeyMap) (c : Byte) : (extendedUnit km c true).isBreak = true := by
  obtain ⟨hunit, -⟩ | ⟨r, hr, -, hunit⟩ := unitOfCode_cases (extendedKeys km) (.xkeyB c) c true
  · exact congrArg Instr.isBreak hunit
  · obtain ⟨-, -, -, -, -, -, -, hbreak⟩ := extendedKeys_spec km r hr
    exact (congrArg Instr.isBreak hunit).trans hbreak

end Sys2Proof

namespace Sys2Proof.Machine

/-- The outcome of a unit on `s` that owes nothing and has sent nothing. -/
def Silent (s : State) (o : Host.Outcome State Fault Refusal) : Prop := ∃ t, o = .next t ∧ t.todo = [] ∧ t.out = s.out

section
variable {s : State} (ht : s.todo = [])
include ht

theorem levelKey_silent (r : ModReg) (release : Bool) : Silent s (levelKey r release s) :=
  completeUnit_silent (s := s.setMod r (!release)) ht rfl

theorem toggleKey_break_silent : Silent s (toggleKey true s) := completeUnit_silent ht rfl

theorem controlKey_break_silent : Silent s (controlKey true s) := by
  unfold controlKey
  split_ifs
  · exact toggleKey_break_silent ht
  · exact levelKey_silent ht .CT true

theorem capsKey_break_silent : Silent s (capsKey true s) := by
  unfold capsKey
  split_ifs
  · exact levelKey_silent ht .CT true
  · exact toggleKey_break_silent ht

/-- A keypad key's break is consumed in application mode, and is an ordinary key's break else. -/
theorem keypadKey_break_silent (code : Byte) (acts : List Action) : Silent s (keypadKey code acts true s) := by
  unfold keypadKey
  split_ifs
  · exact completeUnit_silent ht rfl
  · exact completeUnit_silent ht (txBytes_asciiActions_break _ _ _)

theorem exec_break_silent {i : Instr} (hi : i.isBreak = true) : Silent s (exec i s) := by
  cases i with
  | lshiftB | rshiftB => exact levelKey_silent ht _ true
  | ctrlB => exact controlKey_break_silent ht
  | capsB => exact capsKey_break_silent ht
  | kp0B | kp1B | kp2B | kp3B | kp4B | kp5B | kp6B | kp7B | kp8B | kp9B | kpdotB | kpstarB | kpminusB | kpplusB =>
    exact keypadKey_break_silent ht _ _
  | keyB c => exact ordinaryKey_break_silent ht c
  | numlockB | scrlockB | altB | f1B | f2B | f3B | f4B | f5B | f6B | f7B | f8B | f9B | f10B | f11B | f12B
  | upB | downB | rightB | leftB | insB | delB | homeB | endB | pgupB | pgdnB | kpenterB | kpslashB | raltB | rctrlB
  | lwinB | rwinB | menuB | prtsc1B | prtsc2B | xkeyB => exact completeUnit_silent ht rfl
  | _ => nomatch hi

end

theorem settle_of_todo_nil {s : State} (h : s.todo = []) : s.settle = s := by
  rw [State.settle, h, appliedAll, ← h]

/-- Settles O33: with nothing left to send, the phase a unit comes to is the phase it is in. -/
theorem breakUnitsSendNothing : Obligations.BreakUnitsSendNothing := by
  refine ⟨fun i s hi ht => ?_, fun km c => ⟨isBreak_plainUnit km c, isBreak_extendedUnit km c⟩⟩
  obtain ⟨t, hexec, htodo, hout⟩ := exec_break_silent ht hi
  obtain ⟨u, hexec', -, -, -, hphase⟩ := unitsTouchOnlyPhaseModifiersAndStreams i s
  obtain rfl : u = t := Host.Outcome.next.inj (hexec'.symm.trans hexec)
  exact ⟨u, hexec, htodo, hout, settle_of_todo_nil htodo ▸ hphase ht⟩

end Sys2Proof.Machine
end

section
/-! PROOF. What the extended units do not read (41_extended.md R150): the primitives they start are the same under other
modifiers, another ROM and another opt.SW, and primitives act alike whatever these are. -/

namespace Sys2Proof.Machine

/-- An update of the state that commutes with every write a primitive makes. -/
structure CommutesWithActions (f : State → State) : Prop where
  todo : ∀ s l, f { s with todo := l } = { f s with todo := l }
  diag : ∀ s e, f { s with diag := s.diag ++ [e] } = { f s with diag := (f s).diag ++ [e] }
  phase : ∀ s p, f (s.setPhase p) = (f s).setPhase p

section
variable {f : State → State} (hf : CommutesWithActions f)
include hf

theorem CommutesWithActions.runActions_eq (acts : List Action) (s : State) :
    runActions acts (f s) = f (runActions acts s) := by
  induction acts generalizing s with
  | nil => exact (hf.todo s []).symm
  | cons a rest ih =>
    cases a with
    | tx b => exact (hf.todo s (.tx b :: rest)).symm
    | diag e => rw [runActions_diag, runActions_diag, ← hf.diag, ih]
    | enter p => rw [runActions_enter, runActions_enter, ← hf.phase, ih]

theorem CommutesWithActions.completeUnit_eq (acts : List Action) (s : State) :
    completeUnit acts (f s) = .next (f (s.perform (.enter .idle :: acts))) := by
  have hupdate : f s = { f s with todo := s.todo } := hf.todo s s.todo
  have htodo : (f s).todo = s.todo := by rw [hupdate]
  rw [completeUnit, State.perform, htodo, hf.runActions_eq, State.perform]

end

/-- The unit starts the primitives `acts` reads off the state, from neither `m` nor the ROM nor opt.SW, and, but for the
makes of R161 and R162, from no option. -/
structure StartsExtended (i : Instr) (acts : State → List Action) : Prop where
  exec_eq : ∀ s, exec i s = completeUnit (acts s) s
  ignores : ∀ s m' rom' sw', acts { s with m := m', rom := rom', opt := { s.opt with sw := sw' } } = acts s
  ignoresOptions : i ≠ .kpenterM → i ≠ .kpslashM → ∀ s opt', acts { s with opt := opt' } = acts s

theorem exists_startsExtended {i : Instr} (hi : i.isExtended = true) : ∃ acts, StartsExtended i acts := by
  cases i with
  | kpenterM => exact ⟨_, fun _ => rfl, fun _ _ _ _ => rfl, fun h => absurd rfl h⟩
  | kpslashM => exact ⟨_, fun _ => rfl, fun _ _ _ _ => rfl, fun _ h => absurd rfl h⟩
  | upM | upB | downM | downB | rightM | rightB | leftM | leftB | insM | insB | delM | delB | homeM | homeB | endM | endB
  | pgupM | pgupB | pgdnM | pgdnB | kpenterB | kpslashB | raltM | raltB | rctrlM | rctrlB | lwinM | lwinB | rwinM | rwinB
  | menuM | menuB | prtsc1M | prtsc1B | prtsc2M | prtsc2B | xkeyM | xkeyB =>
    exact ⟨_, fun _ => rfl, fun _ _ _ _ => rfl, fun _ _ _ _ => rfl⟩
  | _ => nomatch hi

/-- Settles O16: the unit starts the same primitives under the changed ports and registers, and these commute with the
change. -/
theorem extendedUnitsIgnoreModifiersSwapAndRom : Obligations.ExtendedUnitsIgnoreModifiersSwapAndRom := by
  intro i s hi ht
  obtain ⟨acts, hexec, hignores, hoptions⟩ := exists_startsExtended hi
  refine ⟨_, hexec s, perform_m _ s, fun hbreak => ?_, fun m' rom' sw' => ?_, fun henter hslash opt' => ?_⟩
  · obtain ⟨u, hu, htodo, hout⟩ := exec_break_silent ht hbreak
    obtain rfl := Host.Outcome.next.inj (hu.symm.trans (hexec s))
    exact ⟨htodo, hout⟩
  · have hf : CommutesWithActions fun u => { u with m := m', rom := rom', opt := { s.opt with sw := sw' } } :=
      ⟨fun _ _ => rfl, fun _ _ => rfl, fun _ _ => rfl⟩
    rw [hexec, hignores]
    exact hf.completeUnit_eq (acts s) s
  · have hf : CommutesWithActions fun u => { u with opt := opt' } := ⟨fun _ _ => rfl, fun _ _ => rfl, fun _ _ => rfl⟩
    rw [hexec, hoptions henter hslash]
    exact hf.completeUnit_eq (acts s) s

end Sys2Proof.Machine
end

section
/-! PROOF. The lock, modifier and function keys one by one (42_locks_modifiers_fkeys.md sections 1 to 3): the reply of
each kind of key and its place in the decoder; and the swap of section 2. -/

namespace Sys2Proof

theorem isExtended_extendedUnit (km : KeyMap) (c : Byte) (release : Bool) :
    (extendedUnit km c release).isExtended = true := by
  obtain ⟨hunit, -⟩ | ⟨r, hr, -, hunit⟩ :=
    unitOfCode_cases (extendedKeys km) (if release then .xkeyB c else .xkeyM c) c release
  · rw [extendedUnit, hunit]
    cases release <;> rfl
  · obtain ⟨-, -, -, -, hmake, hbreak, -⟩ := extendedKeys_spec km r hr
    rw [extendedUnit, hunit]
    cases release with
    | false => exact hmake
    | true => exact hbreak

/-- The units of the two keys whose roles opt.SW exchanges. -/
def swapUnits : List Instr := [.ctrlM, .ctrlB, .capsM, .capsB]

/-- Of the codes of the opcode map only 0x14 and 0x58 have a unit of `swapUnits`, whatever the KEYMAP says. -/
theorem plainUnit_not_mem_swapUnits (km : KeyMap) {c : Byte} (hctrl : c ≠ 0x14) (hcaps : c ≠ 0x58) (release : Bool) :
    plainUnit km c release ∉ swapUnits := by
  have hrows : ∀ r ∈ plainKeys km, r.1 ≠ 0x14 → r.1 ≠ 0x58 → r.2.1 ∉ swapUnits ∧ r.2.2 ∉ swapUnits := by
    simp [plainKeys, swapUnits]
  obtain ⟨hunit, -⟩ | ⟨r, hr, rfl, hunit⟩ :=
    unitOfCode_cases (plainKeys km) (if release then .keyB c else .keyM c) c release
  · rw [plainUnit, hunit]
    cases release <;> simp [swapUnits]
  · obtain ⟨hmake, hbreak⟩ := hrows r hr hctrl hcaps
    rw [plainUnit, hunit]
    cases release with
    | false => exact hmake
    | true => exact hbreak

theorem plainUnit_ctrl (km : KeyMap) (release : Bool) :
    plainUnit km 0x14 release = if release then .ctrlB else .ctrlM := rfl

theorem plainUnit_caps (km : KeyMap) (release : Bool) :
    plainUnit km 0x58 release = if release then .capsB else .capsM := rfl

end Sys2Proof

namespace Sys2Proof.Machine

section
variable {s : State}

/-! ### The two keys of the swap, for each value of opt.SW (R193, R197, R198) -/

theorem controlKey_of_sw_false (h : s.opt.sw = false) (release : Bool) :
    controlKey release s = levelKey .CT release s := if_neg (by simp [h])

theorem controlKey_of_sw_true (h : s.opt.sw = true) (release : Bool) : controlKey release s = toggleKey release s :=
  if_pos h

theorem capsKey_of_sw_false (h : s.opt.sw = false) (release : Bool) : capsKey release s = toggleKey release s :=
  if_neg (by simp [h])

theorem capsKey_of_sw_true (h : s.opt.sw = true) (release : Bool) : capsKey release s = levelKey .CT release s :=
  if_pos h

theorem exec_plainUnit_ctrl (release : Bool) : exec (plainUnit s.par.keymap 0x14 release) s = controlKey release s := by
  rw [plainUnit_ctrl]
  cases release <;> rfl

theorem exec_plainUnit_caps (release : Bool) : exec (plainUnit s.par.keymap 0x58 release) s = capsKey release s := by
  rw [plainUnit_caps]
  cases release <;> rfl

variable (ht : s.todo = []) (code : Byte) (release : Bool)
include ht

theorem lockKey_replies : Replies s ⟨s.m, [], pressOnly release [.lockkey code]⟩ (lockKey code release s) :=
  completeUnit_logs_onMake ht release _

theorem functionKey_replies : Replies s ⟨s.m, [], pressOnly release [.fkey code]⟩ (functionKey code release s) :=
  completeUnit_logs_onMake ht release _

end

/-- Settles O17: the decoder's rows of these two codes stand before every row a KEYMAP can move. -/
theorem lockKeysAreSwallowed : Obligations.LockKeysAreSwallowed := by
  intro s r hr
  simp only [List.mem_cons, List.not_mem_nil, or_false] at hr
  obtain rfl | rfl := hr
  all_goals exact ⟨fun ht => ⟨lockKey_replies ht _ false, lockKey_replies ht _ true⟩, rfl, rfl, rfl, rfl, rfl, rfl⟩

/-- Settles O18. -/
theorem shiftKeysWriteTheirOwnBit : Obligations.ShiftKeysWriteTheirOwnBit := fun s =>
  ⟨fun ht => ⟨levelKey_replies ht false .LS, levelKey_replies ht true .LS, levelKey_replies ht false .RS,
    levelKey_replies ht true .RS⟩, rfl, rfl, rfl, rfl, rfl, rfl, rfl, rfl, fun release =>
    ⟨isExtended_extendedUnit s.par.keymap 0x12 release, isExtended_extendedUnit s.par.keymap 0x59 release⟩⟩

/-- Settles O19: for each value of opt.SW one of the two keys is the level key of `m[CT]`, the other the toggle key. -/
theorem controlAndCapsLockKeys : Obligations.ControlAndCapsLockKeys := by
  intro s
  refine ⟨fun ht hsw => ?_, fun ht hsw => ?_, rfl, rfl, rfl, rfl, rfl, rfl, rfl, rfl, fun release =>
    ⟨isExtended_extendedUnit s.par.keymap 0x14 release, isExtended_extendedUnit s.par.keymap 0x58 release⟩,
    shiftIndex_set_CL s.m _⟩
  · have hctrl : ∀ release, Replies s ⟨s.m.set .CT (!release), [], []⟩ (controlKey release s) := fun release =>
      controlKey_of_sw_false hsw release ▸ levelKey_replies ht release .CT
    have hcaps : ∀ release, Replies s ⟨s.m.toggled release, [], []⟩ (capsKey release s) := fun release =>
      capsKey_of_sw_false hsw release ▸ toggleKey_replies ht release
    exact ⟨hctrl false, hctrl true, hcaps false, hcaps true⟩
  · have hcaps : ∀ release, Replies s ⟨s.m.set .CT (!release), [], []⟩ (capsKey release s) := fun release =>
      capsKey_of_sw_true hsw release ▸ levelKey_replies ht release .CT
    have hctrl : ∀ release, Replies s ⟨s.m.toggled release, [], []⟩ (controlKey release s) := fun release =>
      controlKey_of_sw_true hsw release ▸ toggleKey_replies ht release
    exact ⟨hcaps false, hcaps true, hctrl false, hctrl true⟩

/-- Settles O20. -/
theorem altKeyChangesNothing : Obligations.AltKeyChangesNothing := fun s =>
  ⟨fun ht => ⟨completeUnit_writes ht s.m, completeUnit_writes ht s.m⟩, rfl, rfl, rfl, rfl⟩

/-- Settles O21. -/
theorem functionKeysAreSwallowed : Obligations.FunctionKeysAreSwallowed := by
  intro s r hr
  simp only [List.mem_cons, List.not_mem_nil, or_false] at hr
  obtain rfl | rfl | rfl | rfl | rfl | rfl | rfl | rfl | rfl | rfl | rfl | rfl := hr
  all_goals exact ⟨fun ht => ⟨functionKey_replies ht _ false, functionKey_replies ht _ true⟩, rfl, rfl⟩

end Sys2Proof.Machine
end

section
/-! PROOF. The swap as it is observed (42_locks_modifiers_fkeys.md R193): the units of the codes 0x14 and 0x58 exchange
roles under opt.SW, and no other unit reads it. -/

namespace Sys2Proof.Machine

/-- Two outcomes are next states that agree but for the options, those of the first being `opt'`. -/
def SameButOptions (opt' : Options) (o' o : Host.Outcome State Fault Refusal) : Prop :=
  ∃ t, o' = .next { t with opt := opt' } ∧ o = .next t

section
variable (opt' : Options) (s : State) (release : Bool)

theorem sameButOptions_of_optionsUnread {f : State → Host.Outcome State Fault Refusal} (h : OptionsUnread f s) :
    SameButOptions opt' (f { s with opt := opt' }) (f s) := by
  obtain ⟨t, hf, hopt⟩ := h
  exact ⟨t, hopt opt', hf⟩

theorem completeUnit_sameButOptions (acts : List Action) :
    SameButOptions opt' (completeUnit acts { s with opt := opt' }) (completeUnit acts s) :=
  have hf : CommutesWithActions fun u => { u with opt := opt' } := ⟨fun _ _ => rfl, fun _ _ => rfl, fun _ _ => rfl⟩
  ⟨_, hf.completeUnit_eq acts s, rfl⟩

theorem levelKey_sameButOptions (r : ModReg) :
    SameButOptions opt' (levelKey r release { s with opt := opt' }) (levelKey r release s) :=
  completeUnit_sameButOptions opt' (s.setMod r (!release)) []

theorem toggleKey_sameButOptions :
    SameButOptions opt' (toggleKey release { s with opt := opt' }) (toggleKey release s) := by
  cases release with
  | false => exact completeUnit_sameButOptions opt' (s.setMod .CL (!s.m.get .CL)) []
  | true => exact completeUnit_sameButOptions opt' s []

variable (sw' : Bool) (code : Byte)

/-- A keypad key reads opt.AK alone. -/
theorem keypadKey_sameButSwap (acts : List Action) : SameButOptions { s.opt with sw := sw' }
    (keypadKey code acts release { s with opt := { s.opt with sw := sw' } }) (keypadKey code acts release s) := by
  unfold keypadKey
  split_ifs
  · exact completeUnit_sameButOptions _ s _
  · exact completeUnit_sameButOptions _ s _

/-- An ordinary key reads opt.AK alone. -/
theorem ordinaryKey_sameButSwap : SameButOptions { s.opt with sw := sw' }
    (ordinaryKey code release { s with opt := { s.opt with sw := sw' } }) (ordinaryKey code release s) := by
  unfold ordinaryKey
  split_ifs
  · exact completeUnit_sameButOptions _ s _
  · exact completeUnit_sameButOptions _ s _

/-- No unit but those of the two keys reads opt.SW. -/
theorem exec_sameButSwap {i : Instr} (hi : i ∉ swapUnits) : SameButOptions { s.opt with sw := sw' }
    (exec i { s with opt := { s.opt with sw := sw' } }) (exec i s) := by
  cases i with
  | ctrlM | ctrlB | capsM | capsB => exact absurd (by decide) hi
  | spFA | spAA | spEE | spFE | sp00 | spFF | pause =>
    exact sameButOptions_of_optionsUnread _ s (exec_optionsUnread s (by decide))
  | lshiftM | lshiftB => exact levelKey_sameButOptions _ s _ .LS
  | rshiftM | rshiftB => exact levelKey_sameButOptions _ s _ .RS
  | kp0M | kp0B | kp1M | kp1B | kp2M | kp2B | kp3M | kp3B | kp4M | kp4B | kp5M | kp5B | kp6M | kp6B | kp7M | kp7B
  | kp8M | kp8B | kp9M | kp9B | kpdotM | kpdotB | kpstarM | kpstarB | kpminusM | kpminusB | kpplusM | kpplusB =>
    exact keypadKey_sameButSwap s _ sw' _ _
  | keyM c | keyB c => exact ordinaryKey_sameButSwap s _ sw' c
  | _ => exact completeUnit_sameButOptions _ s _

end

/-- Settles O22: under the swap the key of 0x58 is the level key that the key of 0x14 is without it, and conversely with
the toggle key; every other code keeps its unit, which does not read opt.SW. -/
theorem swapExchangesControlAndCapsLock : Obligations.SwapExchangesControlAndCapsLock := by
  intro s c release hsw
  by_cases hcaps : c = 0x58
  · subst hcaps
    rw [if_pos rfl, exec_plainUnit_ctrl, controlKey_of_sw_false hsw,
      exec_plainUnit_caps (s := { s with opt := { s.opt with sw := true } }), capsKey_of_sw_true rfl]
    exact levelKey_sameButOptions _ s release .CT
  by_cases hctrl : c = 0x14
  · subst hctrl
    rw [if_neg hcaps, if_pos rfl, exec_plainUnit_caps, capsKey_of_sw_false hsw,
      exec_plainUnit_ctrl (s := { s with opt := { s.opt with sw := true } }), controlKey_of_sw_true rfl]
    exact toggleKey_sameButOptions _ s release
  rw [if_neg hcaps, if_neg hctrl]
  exact exec_sameButSwap s true (plainUnit_not_mem_swapUnits s.par.keymap hctrl hcaps release)

end Sys2Proof.Machine
end

section
/-! PROOF. The numeric keypad (43_keypad.md R230 to R247): the reply of a keypad unit in application mode, the ordinary
key it is otherwise, and the Num-Lock variant. -/

namespace Sys2Proof

/-- The decoder's row of 0x77 stands before every row a KEYMAP can move. -/
theorem plainUnit_numlock (km : KeyMap) (release : Bool) :
    plainUnit km 0x77 release = if release then .numlockB else .numlockM := rfl

end Sys2Proof

namespace Sys2Proof.Machine

section
variable {s : State}

/-- With opt.AK = 0 the units of a keypad key are KEY.M and KEY.B of its code: without application mode the Num-Lock
variant claims no code (43_keypad.md R246, R247). -/
theorem exec_keypadKeys_of_ak_false (hak : s.opt.ak = false) {row : KeyRow}
    (h : row ∈ digitKeys s.par.keymap ++ operatorKeys s.par.keymap) (release : Bool) :
    exec (if release then row.2.2 else row.2.1) s = exec (if release then .keyB row.1 else .keyM row.1) s := by
  rw [runAs_iff.mp (keypadKeys_runAs_asciiUnit release s hak) row h, exec_key,
    ordinaryKey_of_not_claimed release fun hclaimed => by simp [hak] at hclaimed]
  rfl

variable (ht : s.todo = []) (hak : s.opt.ak = true) (code : Byte) (release : Bool)
include ht hak

theorem keypadKey_escapes (cs : List Byte) :
    Replies s ⟨s.m, pressOnly release (escBytes cs), []⟩ (keypadKey code (txEsc cs) release s) := by
  rw [keypadKey_of_ak_true hak]
  exact completeUnit_escapes_onMake ht release cs

theorem keypadDigit_replies (digit : Nat) :
    Replies s ⟨s.m, pressOnly release [asciiEsc, asciiQuery, keypadLetter digit], []⟩
      (keypadDigit code digit release s) :=
  keypadKey_escapes ht hak code release _

/-- A keypad key without a sequence, KPPLUS, is swallowed (43_keypad.md R245). -/
theorem keypadKey_nil_replies : Replies s ⟨s.m, [], []⟩ (keypadKey code [] release s) := by
  rw [keypadKey_of_ak_true hak]
  cases release <;> exact completeUnit_writes ht s.m

/-- The Num-Lock variant is swallowed, on make and on break (43_keypad.md R246). -/
theorem ordinaryKey_claimed_replies :
    Replies s ⟨s.m, [], []⟩ (ordinaryKey s.par.keymap.kpNumLk release s) := by
  rw [ordinaryKey_of_claimed release hak rfl]
  exact completeUnit_writes ht s.m

end

/-- Settles O23. -/
theorem keypadDigitsInApplicationMode : Obligations.KeypadDigitsInApplicationMode := by
  intro s r hr
  simp only [List.mem_cons, List.not_mem_nil, or_false] at hr
  obtain rfl | rfl | rfl | rfl | rfl | rfl | rfl | rfl | rfl | rfl | rfl := hr
  all_goals
    exact ⟨fun ht hak => ⟨keypadDigit_replies ht hak _ false _, keypadDigit_replies ht hak _ true _⟩, rfl, rfl⟩

/-- Settles O24. -/
theorem keypadOperatorsInApplicationMode : Obligations.KeypadOperatorsInApplicationMode := by
  intro s r hr
  simp only [List.mem_cons, List.not_mem_nil, or_false] at hr
  obtain rfl | rfl | rfl := hr
  · exact ⟨fun ht hak => ⟨keypadKey_escapes ht hak _ false _, keypadKey_escapes ht hak _ true _⟩, rfl, rfl⟩
  · exact ⟨fun ht hak => ⟨keypadKey_escapes ht hak _ false _, keypadKey_escapes ht hak _ true _⟩, rfl, rfl⟩
  · exact ⟨fun ht hak => ⟨keypadKey_nil_replies ht hak _ false, keypadKey_nil_replies ht hak _ true⟩, rfl, rfl⟩

/-- Settles O25: the 14 keys are those of the decoder's rows, and every unit answers a next state. -/
theorem keypadKeysAreOrdinaryWithModeOff : Obligations.KeypadKeysAreOrdinaryWithModeOff := by
  intro s r hr hak
  obtain ⟨row, hrow, rfl⟩ : ∃ row ∈ digitKeys s.par.keymap ++ operatorKeys s.par.keymap,
      (row.2.1, row.2.2, row.1) = r := List.mem_map.mp hr
  obtain ⟨t, hmake, -⟩ := unitsTouchOnlyPhaseModifiersAndStreams row.2.1 s
  obtain ⟨u, hbreak, -⟩ := unitsTouchOnlyPhaseModifiersAndStreams row.2.2 s
  exact ⟨t, u, hmake, (exec_keypadKeys_of_ak_false hak hrow false).symm.trans hmake,
    hbreak, (exec_keypadKeys_of_ak_false hak hrow true).symm.trans hbreak⟩

/-- Settles O26. -/
theorem keypadNumLockVariantIsSwallowed : Obligations.KeypadNumLockVariantIsSwallowed := by
  refine ⟨fun s ht hak => ⟨ordinaryKey_claimed_replies ht hak false, ordinaryKey_claimed_replies ht hak true⟩,
    fun km hkm => ?_⟩
  rw [hkm]
  exact ⟨plainUnit_numlock km false, plainUnit_numlock km true⟩

end Sys2Proof.Machine
end

section
/-! PROOF. The ASCII stage (44_ascii.md R261 to R265): the ROM entry and the byte sent for it in the rules' own
arithmetic, and the reply of an ordinary key. -/

namespace Sys2Proof.Machine

/-- The two bits of the shift index do not overlap, so it is a sum. -/
theorem shiftIndex_toNat_eq_add (m : Modifiers) :
    (shiftIndex m).toNat = (if m.ls ∨ m.rs then 1 else 0) + (if m.ct then 2 else 0) := by
  rw [shiftIndex_toNat]
  cases m.ls <;> cases m.rs <;> cases m.ct <;> rfl

theorem romAddress_eq_ofNat {code : Byte} (idx : BitVec 2) (h : code.toNat < 0x80) :
    romAddress code idx = BitVec.ofNat 9 (code.toNat * 4 + idx.toNat) := by
  rw [← romAddress_toNat idx h, BitVec.ofNat_toNat, BitVec.setWidth_eq]

/-- The lookup in the rules' own arithmetic (44_ascii.md R261; 20_memory.md R58). -/
theorem lookupEntry_eq (rom : Memory) (m : Modifiers) (code : Byte) :
    lookupEntry rom m code =
      if 0x80 ≤ code.toNat then 0x00 else
        Memory.read rom
          (BitVec.ofNat 9 (code.toNat * 4 + ((if m.ls ∨ m.rs then 1 else 0) + (if m.ct then 2 else 0)))) := by
  rw [lookupEntry]
  by_cases hrow : 0x80 ≤ code.toNat
  · rw [if_pos hrow, tableEntry_of_ge rom _ hrow]
  · have hlt : code.toNat < 0x80 := not_le.mp hrow
    rw [if_neg hrow, tableEntry_of_lt rom _ hlt, romAddress_eq_ofNat _ hlt, shiftIndex_toNat_eq_add]

theorem setWidth_maskTo7 (e : Byte) : (maskTo7 e).setWidth 8 = e &&& 0x7F := by
  refine BitVec.eq_of_toNat_eq ?_
  rw [BitVec.toNat_setWidth_of_le (by decide), maskTo7, BitVec.extractLsb_toNat, Nat.shiftRight_zero, BitVec.toNat_and]
  exact (Nat.and_two_pow_sub_one_eq_mod _ 7).symm

/-- CapsAdjust of seven bits, as arithmetic on the byte they stand in (44_ascii.md R263): the subtraction does not
borrow, so it comes to the same in seven bits and in eight. -/
theorem setWidth_capsAdjust (cl : Bool) (v : BitVec 7) :
    (capsAdjust cl v).setWidth 8 =
      if cl = true ∧ 0x61 ≤ (v.setWidth 8).toNat ∧ (v.setWidth 8).toNat ≤ 0x7A then v.setWidth 8 - 0x20
      else v.setWidth 8 := by
  have hletter : (cl && decide (0x61 ≤ v) && decide (v ≤ 0x7A)) = true ↔
      cl = true ∧ 0x61 ≤ (v.setWidth 8).toNat ∧ (v.setWidth 8).toNat ≤ 0x7A := by
    rw [BitVec.toNat_setWidth_of_le (by decide)]
    simp [BitVec.le_def, and_assoc]
  rw [capsAdjust]
  by_cases h : cl = true ∧ 0x61 ≤ (v.setWidth 8).toNat ∧ (v.setWidth 8).toNat ≤ 0x7A
  · rw [if_pos (hletter.mpr h), if_pos h]
    obtain ⟨-, hlow, -⟩ := h
    bv_omega
  · rw [if_neg (mt hletter.mp h), if_neg h]

/-- The byte sent for an entry in the rules' own arithmetic (44_ascii.md R262, R263). -/
theorem asciiByte_eq (m : Modifiers) (e : Byte) :
    asciiByte m e =
      if m.cl = true ∧ 0x61 ≤ (e &&& 0x7F).toNat ∧ (e &&& 0x7F).toNat ≤ 0x7A then (e &&& 0x7F) - 0x20
      else e &&& 0x7F := by
  rw [asciiByte, Modifiers.get_CL, ← setWidth_maskTo7]
  exact setWidth_capsAdjust m.cl (maskTo7 e)

section
variable {s : State} {code : Byte} (ht : s.todo = []) (hfree : ¬(s.opt.ak = true ∧ code = s.par.keymap.kpNumLk))
  (release : Bool)
include ht hfree

/-- An ordinary key without an entry is logged, on make and on break (44_ascii.md R265). -/
theorem ordinaryKey_unmapped_replies (h : lookupEntry s.rom s.m code = 0x00) :
    Replies s ⟨s.m, [], [.unknown code release]⟩ (ordinaryKey code release s) := by
  rw [ordinaryKey_of_not_claimed release hfree, asciiActions, if_pos h]
  exact completeUnit_logs ht _

/-- An ordinary key with an entry sends one byte on press and logs nothing (44_ascii.md R262). -/
theorem ordinaryKey_mapped_replies (h : lookupEntry s.rom s.m code ≠ 0x00) :
    Replies s ⟨s.m, pressOnly release [asciiByte s.m (lookupEntry s.rom s.m code)], []⟩
      (ordinaryKey code release s) := by
  rw [ordinaryKey_of_not_claimed release hfree, asciiActions_of_ne_zero release h]
  exact completeUnit_sends_onMake ht release (writesNoPhase_tx _) rfl rfl

end

/-- Settles O27: the obligation's entry and byte are those of the model, and each entry, zero or not, has one reply for
both forms of the key. -/
theorem ordinaryKeysSendTheirTableEntry : Obligations.OrdinaryKeysSendTheirTableEntry := by
  intro s c ht hfree
  dsimp only
  rw [← lookupEntry_eq, ← asciiByte_eq]
  refine ⟨fun hzero => ⟨?_, ?_⟩, fun hne => ⟨?_, ?_⟩⟩
  · exact ordinaryKey_unmapped_replies ht hfree false hzero
  · exact ordinaryKey_unmapped_replies ht hfree true hzero
  · exact ordinaryKey_mapped_replies ht hfree false hne
  · exact ordinaryKey_mapped_replies ht hfree true hne

end Sys2Proof.Machine
end

section
/-! PROOF. The block past its start (60_exceptions.md R289; 20_memory.md R53): OUT only grows, an unfinished step stays
a unit's, and so the invariant is kept by every step and along every run. -/

namespace Sys2Proof.Machine

/-- No phase but IDLE is written. -/
def EntersOnlyIdle (acts : List Action) : Prop := ∀ p, Action.enter p ∈ acts → p = .idle

theorem entersOnlyIdle_of_writesNoPhase {acts : List Action} (h : WritesNoPhase acts) : EntersOnlyIdle acts :=
  fun p hp => absurd hp (h p)

/-- `unitRest` in the terms of the lemmas about primitives. -/
theorem unitRest_iff (acts : List Action) : unitRest acts = true ↔
    acts = [] ∨ (∃ b rest, acts = .tx b :: rest) ∧ EntersOnlyIdle acts ∧ (txBytes acts).length ≤ 3 := by
  cases acts with
  | nil => simp [unitRest]
  | cons a rest =>
    cases a with
    | diag e => simp [unitRest]
    | enter p => simp [unitRest]
    | tx b =>
      rw [unitRest, Bool.and_eq_true, decide_eq_true_iff, List.all_eq_true]
      constructor
      · rintro ⟨hlength, hrest⟩
        exact .inr ⟨⟨b, rest, rfl⟩, fun p hp => by simpa using hrest (.enter p) (by simpa using hp), hlength⟩
      · rintro (h | ⟨-, hidle, hlength⟩)
        · cases h
        · refine ⟨hlength, fun a ha => ?_⟩
          cases a with
          | tx b => rfl
          | diag e => rfl
          | enter p => simpa using hidle p (List.mem_cons_of_mem _ ha)

/-- What is owed of a list of primitives once started is an end of the list. -/
theorem runActions_todo_suffix (acts : List Action) (s : State) : (runActions acts s).todo <:+ acts := by
  induction acts generalizing s with
  | nil => exact List.suffix_rfl
  | cons a rest ih =>
    cases a with
    | tx b => exact List.suffix_rfl
    | diag e => exact (ih _).trans (List.suffix_cons _ rest)
    | enter p => exact (ih _).trans (List.suffix_cons _ rest)

theorem unitRest_runActions {acts : List Action} (hidle : EntersOnlyIdle acts) (hlength : (txBytes acts).length ≤ 3)
    (s : State) : unitRest (runActions acts s).todo = true := by
  refine (unitRest_iff _).mpr ((runActions_todo acts s).imp_right fun hhead => ⟨hhead, fun p hp => ?_, ?_⟩)
  · exact hidle p ((runActions_todo_suffix acts s).subset hp)
  · rwa [runActions_owed]

theorem runActions_phase_idle {acts : List Action} (hidle : EntersOnlyIdle acts) {s : State}
    (hphase : s.phase = phaseBits .idle) : (runActions acts s).phase = phaseBits .idle := by
  induction acts generalizing s with
  | nil => exact hphase
  | cons a rest ih =>
    have hrest : EntersOnlyIdle rest := fun p hp => hidle p (List.mem_cons_of_mem a hp)
    cases a with
    | tx b => exact hphase
    | diag e => exact ih hrest hphase
    | enter p => exact ih hrest (hidle p List.mem_cons_self ▸ rfl)

/-- The outcome is a next state in which no write of the phase is owed. -/
def OwesNoPhase (o : Host.Outcome State Fault Refusal) : Prop := ∃ t, o = .next t ∧ WritesNoPhase t.todo

section
variable {s : State} (ht : s.todo = [])
include ht

theorem perform_silent_owesNoPhase {m' : Modifiers} {acts : List Action} (h : txBytes acts = []) :
    OwesNoPhase (.next (({ s with m := m' } : State).perform acts)) := by
  refine ⟨_, rfl, ?_⟩
  rw [perform_of_todo_nil (s := { s with m := m' }) ht, runActions_todo_of_txBytes_nil h]
  exact writesNoPhase_nil

/-- A unit that writes its phase first owes no write of it. -/
theorem completeUnit_owesNoPhase {acts : List Action} (h : WritesNoPhase acts) : OwesNoPhase (completeUnit acts s) := by
  refine ⟨_, congrArg Host.Outcome.next (perform_of_todo_nil ht _), fun p hp => ?_⟩
  exact h p ((runActions_todo_suffix acts (s.setPhase .idle)).subset hp)

theorem toggleKey_owesNoPhase (release : Bool) : OwesNoPhase (toggleKey release s) := by
  cases release with
  | false => exact perform_silent_owesNoPhase ht rfl
  | true => exact perform_silent_owesNoPhase ht rfl

theorem levelKey_owesNoPhase (r : ModReg) (release : Bool) : OwesNoPhase (levelKey r release s) :=
  perform_silent_owesNoPhase ht rfl

theorem controlKey_owesNoPhase (release : Bool) : OwesNoPhase (controlKey release s) := by
  unfold controlKey
  split_ifs
  · exact toggleKey_owesNoPhase ht release
  · exact levelKey_owesNoPhase ht .CT release

theorem capsKey_owesNoPhase (release : Bool) : OwesNoPhase (capsKey release s) := by
  unfold capsKey
  split_ifs
  · exact levelKey_owesNoPhase ht .CT release
  · exact toggleKey_owesNoPhase ht release

theorem keypadExtra_owesNoPhase (escape : List Byte) (plain : Byte) (release : Bool) :
    OwesNoPhase (keypadExtra escape plain release s) := by
  refine completeUnit_owesNoPhase ht (writesNoPhase_onMake release ?_)
  split_ifs
  · exact writesNoPhase_txEsc escape
  · exact writesNoPhase_tx plain

theorem asciiUnit_owesNoPhase (code : Byte) (release : Bool) : OwesNoPhase (asciiUnit code release s) :=
  completeUnit_owesNoPhase ht (writesNoPhase_asciiActions _ _ _ _)

theorem ordinaryKey_owesNoPhase (code : Byte) (release : Bool) : OwesNoPhase (ordinaryKey code release s) := by
  unfold ordinaryKey
  split_ifs
  · exact completeUnit_owesNoPhase ht writesNoPhase_nil
  · exact asciiUnit_owesNoPhase ht code release

theorem keypadKey_owesNoPhase (code : Byte) {acts : List Action} (release : Bool) (h : WritesNoPhase acts) :
    OwesNoPhase (keypadKey code acts release s) := by
  unfold keypadKey
  split_ifs
  · exact completeUnit_owesNoPhase ht (writesNoPhase_onMake release h)
  · exact asciiUnit_owesNoPhase ht code release

/-- Only SP.AA writes its phase after a `Tx` (40_special_prefix_pause.md R121). -/
theorem exec_owesNoPhase {i : Instr} (hi : i ≠ .spAA) : OwesNoPhase (exec i s) := by
  cases i with
  | spAA => exact absurd rfl hi
  | ctrlM | ctrlB => exact controlKey_owesNoPhase ht _
  | capsM | capsB => exact capsKey_owesNoPhase ht _
  | kp0M | kp0B | kp1M | kp1B | kp2M | kp2B | kp3M | kp3B | kp4M | kp4B | kp5M | kp5B | kp6M | kp6B | kp7M | kp7B
  | kp8M | kp8B | kp9M | kp9B | kpdotM | kpdotB | kpstarM | kpstarB | kpminusM | kpminusB =>
    exact keypadKey_owesNoPhase ht _ _ (writesNoPhase_txEsc _)
  | kpplusM | kpplusB => exact keypadKey_owesNoPhase ht _ _ writesNoPhase_nil
  | upM | upB | downM | downB | rightM | rightB | leftM | leftB =>
    exact completeUnit_owesNoPhase ht (writesNoPhase_onMake _ (writesNoPhase_txEsc _))
  | kpenterM | kpenterB | kpslashM | kpslashB => exact keypadExtra_owesNoPhase ht _ _ _
  | keyM c | keyB c => exact ordinaryKey_owesNoPhase ht c _
  | _ => exact perform_silent_owesNoPhase ht rfl

end

/-- SP.AA completes in IDLE only: it has one byte, and every other phase has read bytes before it
(40_special_prefix_pause.md R121). -/
theorem eq_idle_of_classify_spAA {km : KeyMap} {p : Phase} {b : Byte} (h : classify km p b = .unit .spAA) :
    p = .idle := by
  have hboot : p ≠ .boot := ne_boot_of_classify_unit h
  have hfits := readingFits_classify km p b
  rw [h] at hfits
  obtain ⟨hencode, -⟩ := hfits
  have hlength : p.bytesRead.length = 0 := Nat.succ.inj ((congrArg List.length hencode).trans List.length_append).symm
  cases p with
  | boot => exact absurd rfl hboot
  | idle => rfl
  | rel | ext | extRel | p1 | p2 | p3 | p4 | p5 | p6 | p7 => cases hlength

/-- A run past its start, but for OUT: a legal phase other than BOOT, and an unfinished step is a unit's, in phase
IDLE. -/
def Running (s : State) : Prop :=
  (∃ p, p ≠ .boot ∧ s.phase = phaseBits p) ∧ unitRest s.todo = true ∧ (s.todo ≠ [] → s.phase = phaseBits .idle)

theorem started_iff (s : State) : Started s ↔ banner <+: s.out ∧ Running s := and_left_comm

theorem running_of_idle {s : State} (hphase : s.phase = phaseBits .idle) (hrest : unitRest s.todo = true) : Running s :=
  ⟨⟨.idle, nofun, hphase⟩, hrest, fun _ => hphase⟩

theorem running_of_todo_nil {s : State} {p : Phase} (hboot : p ≠ .boot) (hphase : s.phase = phaseBits p)
    (ht : s.todo = []) : Running s :=
  ⟨⟨p, hboot, hphase⟩, by rw [ht]; rfl, fun h => absurd ht h⟩

/-- Primitives that write no phase but IDLE and send at most three bytes, started in IDLE. -/
theorem running_runActions {acts : List Action} {s : State} (hphase : s.phase = phaseBits .idle)
    (hidle : EntersOnlyIdle acts) (hlength : (txBytes acts).length ≤ 3) : Running (runActions acts s) :=
  running_of_idle (runActions_phase_idle hidle hphase) (unitRest_runActions hidle hlength s)

section
variable {s t : State} (ht : s.todo = [])
include ht

theorem exec_todo {i : Instr} (hexec : exec i s = .next t) : t.todo = [] ∨ ∃ b rest, t.todo = .tx b :: rest := by
  obtain ⟨acts, m', hperform⟩ := exec_next i s
  obtain rfl := Host.Outcome.next.inj (hperform.symm.trans hexec)
  rw [perform_of_todo_nil (s := { s with m := m' }) ht]
  exact runActions_todo acts _

/-- A unit other than SP.AA is in IDLE once started: with no write of the phase owed, the phase it comes to is the phase
it is in. -/
theorem running_of_exec {i : Instr} (hi : i ≠ .spAA) (hexec : exec i s = .next t) : Running t := by
  obtain ⟨u, hu, hwrites⟩ := exec_owesNoPhase ht hi
  obtain rfl := Host.Outcome.next.inj (hu.symm.trans hexec)
  obtain ⟨v, hv, -, hlength, -⟩ := exec_sends ht hi
  obtain rfl := Host.Outcome.next.inj (hv.symm.trans hexec)
  obtain ⟨w, hw, -, -, -, hsettle⟩ := unitsTouchOnlyPhaseModifiersAndStreams i s
  obtain rfl := Host.Outcome.next.inj (hw.symm.trans hexec)
  have hphase : w.phase = phaseBits .idle := (appliedAll_phase hwrites { w with todo := [] }).symm.trans (hsettle ht)
  have hrest : unitRest w.todo = true := (unitRest_iff _).mpr ((exec_todo ht hexec).imp_right fun hhead =>
    ⟨hhead, entersOnlyIdle_of_writesNoPhase hwrites, hlength⟩)
  exact running_of_idle hphase hrest

theorem running_of_execSpAA (hphase : s.phase = phaseBits .idle) (hexec : exec .spAA s = .next t) : Running t := by
  obtain rfl := Host.Outcome.next.inj hexec
  rw [perform_of_todo_nil ht]
  exact running_runActions hphase (by simp [EntersOnlyIdle]) (by simp [txBytes])

/-- A byte read past the start leaves the block past its start: SP.AA, which writes its phase last, is read in IDLE. -/
theorem running_of_byteStep {p : Phase} {b : Byte} (hboot : p ≠ .boot) (hphase : s.phase = phaseBits p)
    (h : byteStep p b s = .next t) : Running t := by
  have hfits := readingFits_classify s.par.keymap p b
  cases hread : classify s.par.keymap p b with
  | unit i =>
    rw [byteStep_of_unit hread] at h
    by_cases hi : i = .spAA
    · subst hi
      obtain rfl : p = .idle := eq_idle_of_classify_spAA hread
      exact running_of_execSpAA ht hphase h
    · exact running_of_exec ht hi h
  | awaiting q =>
    rw [hread] at hfits
    obtain ⟨hq, -⟩ := hfits
    obtain rfl := Host.Outcome.next.inj ((byteStep_of_awaiting hread).symm.trans h)
    rw [perform_of_todo_nil ht]
    exact running_of_todo_nil hq rfl rfl
  | aborted k =>
    obtain rfl := Host.Outcome.next.inj ((byteStep_of_aborted hread).symm.trans h)
    rw [perform_of_todo_nil ht]
    exact running_of_todo_nil (p := .idle) nofun rfl rfl
  | notRead =>
    obtain rfl := Host.Outcome.next.inj ((byteStep_of_notRead hread).symm.trans h)
    exact running_of_todo_nil hboot hphase ht

theorem running_waitStep {p : Phase} (hboot : p ≠ .boot) (hphase : s.phase = phaseBits p) : Running (waitStep s) := by
  unfold waitStep
  split_ifs
  · rw [recoverStep, perform_of_todo_nil (s := s.reinitialize) ht]
    exact running_of_todo_nil hboot hphase rfl
  · exact running_of_todo_nil hboot hphase ht

end

/-- With a byte in flight the block waits, or goes on in IDLE with what is left. -/
theorem running_oweStep {a : Action} {rest : List Action} {s : State} (h : Running s) (ht : s.todo = a :: rest) :
    Running (oweStep a rest s) := by
  have ⟨_, hunit, hidle⟩ := h
  have hphase : s.phase = phaseBits .idle := hidle (by simp [ht])
  rw [ht, unitRest_iff] at hunit
  obtain hnil | ⟨⟨b, rest', hcons⟩, henters, hlength⟩ := hunit
  · cases hnil
  obtain ⟨rfl, rfl⟩ := List.cons.inj hcons
  obtain hacks | hacks := Bool.eq_false_or_eq_true s.hostAcks
  · rw [oweStep_tx_acknowledged b rest hacks]
    exact running_runActions (s := { s with out := s.out ++ [b] }) hphase
      (fun p hp => henters p (List.mem_cons_of_mem _ hp)) (Nat.le_of_succ_le hlength)
  · rwa [oweStep_tx_stalled b rest hacks]

/-- Past the start every step stays past it. -/
theorem running_of_step {s t : State} (h : Running s) (hstep : step s = .next t) : Running t := by
  have henv : Running s.envTick := by simpa [Running] using h
  have ⟨⟨q, hboot, hq⟩, _, _⟩ := henv
  obtain ⟨p, hp, ⟨a, rest, ht, rfl⟩ | ⟨-, rfl, -⟩ | ⟨ht, -, -, rfl⟩ | ⟨ht, -, b, -, hbyte⟩⟩ := step_cases hstep
  · exact running_oweStep henv ((envTick_todo s).trans ht)
  · exact absurd (phaseBits_injective (hq.symm.trans ((envTick_phase s).trans hp))) hboot
  · exact running_waitStep ((envTick_todo s).trans ht) hboot hq
  · rw [hbyte] at hstep
    obtain rfl := phaseBits_injective (hq.symm.trans ((envTick_phase s).trans hp))
    exact running_of_byteStep (s := s.envTick.consume) ((envTick_todo s).trans ht) hboot hq hstep

theorem out_prefix_oweStep (a : Action) (rest : List Action) (s : State) : s.out <+: (oweStep a rest s).out := by
  cases a with
  | tx b =>
    obtain hacks | hacks := Bool.eq_false_or_eq_true s.hostAcks
    · rw [oweStep_tx_acknowledged b rest hacks, acknowledge_out]
      exact List.prefix_append _ _
    · rw [oweStep_tx_stalled b rest hacks]
  | diag e => exact (runActions_out (.diag e :: rest) s).symm ▸ List.prefix_rfl
  | enter p => exact (runActions_out (.enter p :: rest) s).symm ▸ List.prefix_rfl

theorem bootStep_out (s : State) : (bootStep s).out = s.out := by
  unfold bootStep
  split_ifs
  · exact perform_out _ s
  · rfl

theorem waitStep_out (s : State) : (waitStep s).out = s.out := by
  unfold waitStep
  split_ifs
  · exact perform_out _ s.reinitialize
  · rfl

/-- OUT only grows, from every state (20_memory.md R53). -/
theorem out_prefix_of_step {s t : State} (hstep : step s = .next t) : s.out <+: t.out := by
  rw [← envTick_out s]
  obtain ⟨p, -, ⟨a, rest, -, rfl⟩ | ⟨-, -, rfl⟩ | ⟨-, -, -, rfl⟩ | ⟨-, -, b, -, hbyte⟩⟩ := step_cases hstep
  · exact out_prefix_oweStep a rest _
  · rw [bootStep_out]
  · rw [waitStep_out]
  · rw [byteStep_frame (hbyte.symm.trans hstep)]
    exact List.prefix_rfl

theorem started_of_step {s t : State} (h : Started s) (hstep : step s = .next t) : Started t := by
  rw [started_iff] at h ⊢
  obtain ⟨hbanner, hrunning⟩ := h
  exact ⟨hbanner.trans (out_prefix_of_step hstep), running_of_step hrunning hstep⟩

end Sys2Proof.Machine
end

section
/-! PROOF. The start of a run (70_reset_and_hazards.md R311, R314), and the invariant along a whole run
(60_exceptions.md R289). -/

namespace Sys2Proof.Machine

/-- The banner part sent and the rest owed. -/
theorem starting_of_banner {s : State} {n : Nat} (hphase : s.phase = phaseBits .boot) (hn : n < 3)
    (hout : s.out = banner.take n) (htodo : s.todo = bannerActions.drop n) : Starting s :=
  ⟨hphase, .inr ⟨n, hn, hout, htodo⟩⟩

/-- The banner's primitives are its bytes in order, then the write of phase IDLE. -/
theorem bannerActions_drop : ∀ n < 3, ∃ b,
    bannerActions.drop n = .tx b :: bannerActions.drop (n + 1) ∧ banner.take n ++ [b] = banner.take (n + 1) := by
  rintro (_ | _ | _ | n) hn
  · exact ⟨_, rfl, rfl⟩
  · exact ⟨_, rfl, rfl⟩
  · exact ⟨_, rfl, rfl⟩
  · omega

/-- An acknowledgment moves the banner on by one byte; the third one ends the start (70_reset_and_hazards.md R311). -/
theorem acknowledge_banner {s : State} {n : Nat} {b : Byte} (hphase : s.phase = phaseBits .boot) (hn : n < 3)
    (hout : s.out ++ [b] = banner.take (n + 1)) :
    Starting (s.acknowledge b (bannerActions.drop (n + 1))) ∨
      Started (s.acknowledge b (bannerActions.drop (n + 1))) := by
  by_cases hlast : n + 1 < 3
  · obtain ⟨c, hdrop, -⟩ := bannerActions_drop (n + 1) hlast
    refine .inl (starting_of_banner ?_ hlast ((acknowledge_out s b _).trans hout) ?_)
    · rw [State.acknowledge, hdrop]; exact hphase
    · rw [State.acknowledge, hdrop]; rfl
  · obtain rfl : n = 2 := by omega
    refine .inr ((started_iff _).mpr ⟨?_, running_of_todo_nil (p := .idle) nofun rfl rfl⟩)
    rw [acknowledge_out, hout]
    exact List.prefix_rfl

theorem starting_bootStep {s : State} (hphase : s.phase = phaseBits .boot) (hout : s.out = []) (ht : s.todo = []) :
    Starting (bootStep s) := by
  unfold bootStep
  split_ifs
  · rw [perform_of_todo_nil ht]
    exact starting_of_banner (n := 0) hphase (by decide) hout rfl
  · exact ⟨hphase, .inl ⟨hout, ht⟩⟩

/-- From the start a step stays there or leaves it. -/
theorem starting_or_started_of_step {s t : State} (h : Starting s) (hstep : step s = .next t) :
    Starting t ∨ Started t := by
  obtain ⟨hphase, ⟨hout, ht⟩ | ⟨n, hn, hout, ht⟩⟩ := h
  · obtain rfl := Host.Outcome.next.inj ((step_of_boot hphase ht).symm.trans hstep)
    exact .inl (starting_bootStep ((envTick_phase s).trans hphase) ((envTick_out s).trans hout)
      ((envTick_todo s).trans ht))
  · obtain ⟨b, hdrop, htake⟩ := bannerActions_drop n hn
    obtain rfl := Host.Outcome.next.inj ((step_of_todo_cons hphase (ht.trans hdrop)).symm.trans hstep)
    rw [← envTick_phase s] at hphase
    rw [← envTick_out s] at hout
    rw [← envTick_todo s] at ht
    obtain hacks | hacks := Bool.eq_false_or_eq_true s.envTick.hostAcks
    · rw [oweStep_tx_acknowledged b _ hacks]
      exact acknowledge_banner hphase hn (hout ▸ htake)
    · rw [oweStep_tx_stalled b _ hacks]
      exact .inl (starting_of_banner hphase hn hout ht)

theorem blockInvariant_of_step {s t : State} (h : BlockInvariant s) (hstep : step s = .next t) : BlockInvariant t := by
  obtain ⟨hrom, hrun⟩ := h
  obtain ⟨hsame, -⟩ := step_constants hstep
  refine ⟨hsame ▸ hrom, ?_⟩
  obtain hstarting | hstarted := hrun
  · exact starting_or_started_of_step hstarting hstep
  · exact .inr (started_of_step hstarted hstep)

/-- The phase of a state of the invariant is legal (10_state.md R25). -/
theorem exists_phase_of_blockInvariant {s : State} (h : BlockInvariant s) : ∃ p, s.phase = phaseBits p := by
  obtain ⟨-, ⟨hphase, -⟩ | ⟨⟨p, -, hphase⟩, -⟩⟩ := h
  · exact ⟨.boot, hphase⟩
  · exact ⟨p, hphase⟩

theorem exists_step_of_blockInvariant {s : State} (h : BlockInvariant s) : ∃ t, step s = .next t := by
  obtain ⟨p, hphase⟩ := exists_phase_of_blockInvariant h
  exact step_next hphase

/-- Settles O58, by induction on the number of steps. -/
theorem runsNeverStop : Obligations.RunsNeverStop := by
  intro k
  induction k with
  | zero => exact fun s h => ⟨s, runSteps_zero s, h, List.prefix_rfl⟩
  | succ k ih =>
    intro s h
    obtain ⟨u, hstep⟩ := exists_step_of_blockInvariant h
    obtain ⟨t, hrun, hinv, hout⟩ := ih u (blockInvariant_of_step h hstep)
    exact ⟨t, (runSteps_succ hstep).trans hrun, hinv, (out_prefix_of_step hstep).trans hout⟩

end Sys2Proof.Machine
end

section
/-! PROOF. The conditions of one poll (60_exceptions.md R283, R286, R289, R290): the wrong Pause byte, the poll without
a byte, and RawKeySource, which a byte once taken leaves unread. -/

namespace Sys2Proof.Machine

theorem classify_pause_mismatch (km : KeyMap) {r : Nat × Phase} (hr : r ∈ pausePhases) {b : Byte}
    (hb : b ≠ pauseSeq r.1) : classify km r.2 b = .aborted r.1 := by
  simp only [pausePhases, List.mem_cons, List.not_mem_nil, or_false] at hr
  obtain rfl | rfl | rfl | rfl | rfl | rfl | rfl := hr
  all_goals exact if_neg hb

/-- The broken-off unit's byte is taken; the event is written before the phase (60_exceptions.md R283). -/
theorem step_of_aborted {s : State} {p : Phase} {k : Nat} {b : Byte} {rest : List Byte} (hboot : p ≠ .boot)
    (h : Holds s p (b :: rest)) (hb : classify s.par.keymap p b = .aborted k) :
    step s = .next { s.taken 1 rest with phase := phaseBits .idle, diag := s.diag ++ [.pauseAbort k b] } := by
  have ⟨⟨_, htodo, _⟩, _⟩ := h
  calc step s = byteStep p b (s.taken 1 rest) := step_of_holds hboot h
    _ = .next ((s.taken 1 rest).perform [.diag (.pauseAbort k b), .enter .idle]) := byteStep_of_aborted hb
    _ = .next { s.taken 1 rest with phase := phaseBits .idle, diag := s.diag ++ [.pauseAbort k b] } := by
        rw [perform_of_todo_nil (s := s.taken 1 rest) htodo]
        simp [State.setPhase, State.taken, htodo]

/-- Settles O9. -/
theorem pauseMismatchAbandonsTheUnit : Obligations.PauseMismatchAbandonsTheUnit := by
  intro s b rest r hr hholds hb
  obtain ⟨hboot, -, -⟩ := bytesRead_of_mem_pausePhases r hr
  exact step_of_aborted hboot hholds (classify_pause_mismatch s.par.keymap hr hb)

theorem err_iff (r : RawKeySource) : r.err = true ↔ r.status ≠ 0 := by simp [RawKeySource.err]

theorem waitStep_of_status_zero {s : State} (h : s.rx.status = 0) : waitStep s = s :=
  if_neg fun herr => (err_iff s.rx).mp herr h

/-- The Recover step: RawKeySource reinitialized, the event written (60_exceptions.md R286). -/
theorem waitStep_of_status_ne_zero {s : State} (ht : s.todo = []) (h : s.rx.status ≠ 0) :
    waitStep s = { s.reinitialize with diag := s.diag ++ [.recover] } := by
  rw [waitStep, if_pos ((err_iff s.rx).mpr h), recoverStep, perform_of_todo_nil (s := s.reinitialize) ht, raise,
    runActions_diag, runActions_nil, State.reinitialize, ← ht]

/-- Settles O50. -/
theorem pollWithoutAByteRecoversOrWaits : Obligations.PollWithoutAByteRecoversOrWaits := by
  intro s p hboot hphase htodo hread
  have hstep : step s = .next (waitStep s.envTick) := (step_of_poll hboot hphase htodo).trans (pollStep_none hread)
  refine ⟨fun hstatus => ?_, fun hstatus => ?_⟩
  · refine ⟨keptBytes s.freeDraws 0 s.envTick.rx.buffer, keptBytes_sublist _ _ _, ?_⟩
    rw [hstep, waitStep_of_status_ne_zero ((envTick_todo s).trans htodo) hstatus, State.reinitialize, envTick_freeDraws,
      envTick_diag]
  · rw [hstep, waitStep_of_status_zero hstatus]

/-- From `s` the outcome of `f` is a next state that no change of RawKeySource alters, but for RawKeySource. -/
def SourceUnread (f : State → Host.Outcome State Fault Refusal) (s : State) : Prop :=
  ∃ t, f s = .next t ∧ ∀ rx', f { s with rx := rx' } = .next { t with rx := rx' }

section
variable {s : State} {f g : State → Host.Outcome State Fault Refusal}

/-- What starts the same primitives whatever RawKeySource holds, on a state made without reading it. -/
theorem sourceUnread_runActions {acts : State → List Action} {u : State → State}
    (hacts : ∀ rx', acts { s with rx := rx' } = acts s) (hu : ∀ rx', u { s with rx := rx' } = { u s with rx := rx' }) :
    SourceUnread (fun s => .next (runActions (acts s) (u s))) s := by
  refine ⟨_, rfl, fun rx' => ?_⟩
  have hf : CommutesWithActions fun u => { u with rx := rx' } := ⟨fun _ _ => rfl, fun _ _ => rfl, fun _ _ => rfl⟩
  exact congrArg _ ((congrArg₂ runActions (hacts rx') (hu rx')).trans (hf.runActions_eq (acts s) (u s)))

theorem sourceUnread_perform (acts : List Action) : SourceUnread (fun s => .next (s.perform acts)) s :=
  sourceUnread_runActions (fun _ => rfl) fun _ => rfl

/-- A branch on what is not RawKeySource. -/
theorem sourceUnread_ite {c : State → Bool} (hc : ∀ rx', c { s with rx := rx' } = c s) (hf : SourceUnread f s)
    (hg : SourceUnread g s) : SourceUnread (fun s => if c s then f s else g s) s := by
  unfold SourceUnread
  simp only [hc]
  cases c s with
  | true => exact hf
  | false => exact hg

end

/-- A unit reads the modifiers, the options and the constants only. -/
theorem exec_sourceUnread (i : Instr) (s : State) : SourceUnread (exec i) s := by
  cases i with
  | ctrlM | ctrlB | capsM | capsB | kp0M | kp0B | kp1M | kp1B | kp2M | kp2B | kp3M | kp3B | kp4M | kp4B | kp5M | kp5B
  | kp6M | kp6B | kp7M | kp7B | kp8M | kp8B | kp9M | kp9B | kpdotM | kpdotB | kpstarM | kpstarB | kpminusM | kpminusB
  | kpplusM | kpplusB | keyM | keyB =>
    exact sourceUnread_ite (fun _ => rfl) (sourceUnread_runActions (fun _ => rfl) fun _ => rfl)
      (sourceUnread_runActions (fun _ => rfl) fun _ => rfl)
  | _ => exact sourceUnread_runActions (fun _ => rfl) fun _ => rfl

theorem byteStep_sourceUnread (p : Phase) (b : Byte) (s : State) : SourceUnread (byteStep p b) s := by
  unfold SourceUnread byteStep
  dsimp only
  cases classify s.par.keymap p b with
  | unit i => exact exec_sourceUnread i s
  | awaiting q => exact sourceUnread_perform [.enter q]
  | aborted k => exact sourceUnread_perform (raise (.pauseMismatch k b) ++ [.enter .idle])
  | notRead => exact ⟨s, rfl, fun _ => rfl⟩

/-- Settles O51: with and without the change of the status bits the step is the reading of the byte taken, which leaves
RawKeySource alone. -/
theorem waitingByteIsTakenBeforeTheErrorStatus : Obligations.WaitingByteIsTakenBeforeTheErrorStatus := by
  intro s p b rest hboot hholds
  obtain ⟨t, hbyte, hsource⟩ := byteStep_sourceUnread p b (s.taken 1 rest)
  have hrx : t.rx = (s.taken 1 rest).rx := by rw [byteStep_frame hbyte]
  refine ⟨t, (step_of_holds hboot hholds).trans hbyte, by rw [hrx]; rfl, fun bits => ?_⟩
  have hholds' : Holds { s with rx := { s.rx with status := bits } } p (b :: rest) := hholds
  rw [step_of_holds hboot hholds', hrx]
  exact hsource { (s.taken 1 rest).rx with status := bits }

end Sys2Proof.Machine
end

section
/-! PROOF. The invariant as one step keeps it, and the steps in phase BOOT (70_reset_and_hazards.md R311, R314; decision
D22): the two outcomes of the start-up check, and RawKeySource, from which nothing is taken. -/

namespace Sys2Proof.Machine

/-- Settles O57: the step exists since the phase is legal, and it stays at the start, leaves it, or stays past it. -/
theorem everyStepKeepsTheInvariant : Obligations.EveryStepKeepsTheInvariant := by
  intro s h
  obtain ⟨t, hstep⟩ := exists_step_of_blockInvariant h
  exact ⟨t, hstep, blockInvariant_of_step h hstep⟩

section
variable {s : State} (hphase : s.phase = phaseBits .boot) (htodo : s.todo = [])
include hphase htodo

/-- The check passed: the banner is offered (70_reset_and_hazards.md R311). -/
theorem step_of_boot_passed (h : s.startCheckPassed = true) :
    step s = .next { s.envTick with todo := bannerActions } := by
  have hcheck : s.envTick.startCheckPassed = true := (envTick_startCheckPassed s).trans h
  rw [step_of_boot hphase htodo, bootStep, if_pos hcheck, perform_of_todo_nil ((envTick_todo s).trans htodo)]
  rfl

/-- The check failed: only the environment acts (70_reset_and_hazards.md R314). -/
theorem step_of_boot_failed (h : s.startCheckPassed = false) : step s = .next s.envTick := by
  rw [step_of_boot hphase htodo, bootStep, if_neg (by simp [h])]

end

/-- A block whose start-up check failed stays as it was, but for the environment's ports. -/
theorem runSteps_of_boot_failed (k : Nat) {s : State} (hphase : s.phase = phaseBits .boot) (htodo : s.todo = [])
    (hcheck : s.startCheckPassed = false) :
    ∃ t, runSteps k s = .next t ∧ t.phase = phaseBits .boot ∧ t.todo = [] ∧
      t.out = s.out ∧ t.diag = s.diag ∧ t.inPos = s.inPos ∧ t.m = s.m := by
  induction k generalizing s with
  | zero => exact ⟨s, runSteps_zero s, hphase, htodo, rfl, rfl, rfl, rfl⟩
  | succ k ih =>
    rw [runSteps_succ (step_of_boot_failed hphase htodo hcheck)]
    simpa using ih (s := s.envTick) ((envTick_phase s).trans hphase) ((envTick_todo s).trans htodo)
      ((envTick_startCheckPassed s).trans hcheck)

/-- Settles O3. -/
theorem failedStartCheckHoldsTheBlockInReset : Obligations.FailedStartCheckHoldsTheBlockInReset :=
  fun _ hphase htodo => ⟨fun hcheck k => runSteps_of_boot_failed k hphase htodo hcheck,
    step_of_boot_passed hphase htodo⟩

/-- What the environment delivers queues behind what waits (20_memory.md R68). -/
theorem buffer_prefix_envTick (s : State) : s.rx.buffer <+: s.envTick.rx.buffer := by
  cases henv : s.env with
  | nil => rw [envTick_of_env_nil henv]
  | cons es later =>
    rw [envTick_of_env_cons henv, applyEvents_buffer]
    exact List.prefix_append _ _

/-- In phase BOOT a step takes no byte: the Boot step only starts primitives, and with something owed no step takes one
(20_memory.md R51). -/
theorem step_of_boot_consumes_nothing {s : State} (hphase : s.phase = phaseBits .boot) :
    ∃ t, step s = .next t ∧ t.inPos = s.inPos ∧ t.rx = s.envTick.rx := by
  by_cases htodo : s.todo = []
  · cases hcheck : s.startCheckPassed with
    | true => exact ⟨_, step_of_boot_passed hphase htodo hcheck, envTick_inPos s, rfl⟩
    | false => exact ⟨_, step_of_boot_failed hphase htodo hcheck, envTick_inPos s, rfl⟩
  · obtain ⟨-, howed⟩ := inputIsConsumedInOrder s .boot hphase
    exact howed htodo

/-- Settles O4. -/
theorem noByteIsConsumedInBoot : Obligations.NoByteIsConsumedInBoot := by
  intro s hphase
  obtain ⟨t, hstep, hpos, hrx⟩ := step_of_boot_consumes_nothing hphase
  exact ⟨t, hstep, hpos, hrx ▸ buffer_prefix_envTick s⟩

end Sys2Proof.Machine
end

section
/-! PROOF. What is owed completes as the host acknowledges it (70_reset_and_hazards.md R327; 20_memory.md R53), and so
does the banner (R311). -/

namespace Sys2Proof.Machine

/-- Primitives write legal phases only (10_state.md R25). -/
theorem exists_phase_runActions (acts : List Action) {s : State} (h : ∃ p, s.phase = phaseBits p) :
    ∃ p, (runActions acts s).phase = phaseBits p := by
  induction acts generalizing s with
  | nil => exact h
  | cons a rest ih =>
    cases a with
    | tx b => exact h
    | diag e => exact ih h
    | enter p => exact ih ⟨p, rfl⟩

/-- An acknowledgment leaves the environment's ports alone. -/
theorem acknowledge_ports (s : State) (b : Byte) (rest : List Action) :
    (s.acknowledge b rest).env = s.env ∧ (s.acknowledge b rest).hostAcks = s.hostAcks := by
  rw [State.acknowledge, runActions_frame]
  exact ⟨rfl, rfl⟩

/-- One step, one acknowledgment, with a host that acknowledges and an empty script (notes/assumptions/12.md). -/
theorem step_of_acknowledged {s : State} {p : Phase} {b : Byte} {rest : List Action} (hphase : s.phase = phaseBits p)
    (henv : s.env = []) (hacks : s.hostAcks = true) (htodo : s.todo = .tx b :: rest) :
    step s = .next (s.acknowledge b rest) := by
  rw [step_of_todo_cons hphase htodo, envTick_of_env_nil henv, oweStep_tx_acknowledged b rest hacks]

/-- Settles O49, by induction on the number of bytes owed: each acknowledgment takes one off and leaves the completed
step as it is. -/
theorem owedBytesCompleteAfterAsManyAcknowledgments : Obligations.OwedBytesCompleteAfterAsManyAcknowledgments := by
  intro s p hphase henv hacks htodo
  induction hn : s.owed.length generalizing s p with
  | zero =>
    obtain htodo | ⟨b, rest, htodo⟩ := htodo
    · rw [runSteps_zero, settle_of_todo_nil htodo]
    · simp [htodo, txBytes] at hn
  | succ n ih =>
    obtain htodo | ⟨b, rest, htodo⟩ := htodo
    · simp [htodo, txBytes] at hn
    · obtain ⟨henv', hacks'⟩ := acknowledge_ports s b rest
      obtain ⟨q, hq⟩ := exists_phase_runActions rest (s := { s with out := s.out ++ [b] }) ⟨p, hphase⟩
      have howed : (s.acknowledge b rest).owed.length = n := by
        rw [State.owed, htodo] at hn
        rw [acknowledge_owed]
        exact Nat.succ.inj hn
      rw [runSteps_succ (step_of_acknowledged hphase henv hacks htodo), ← acknowledge_settle s b rest htodo]
      exact ih _ q hq (henv'.trans henv) (hacks'.trans hacks) (runActions_todo rest _) howed

/-- A state that its step does not change stays for ever. -/
theorem runSteps_of_step_self {s : State} (h : step s = .next s) (k : Nat) : runSteps k s = .next s := by
  induction k with
  | zero => exact runSteps_zero s
  | succ k ih => rw [runSteps_succ h, ih]

/-- With a byte in flight that the host does not acknowledge, the block is stuck (60_exceptions.md R288). -/
theorem step_of_stalled {s : State} {p : Phase} {b : Byte} {rest : List Action} (hphase : s.phase = phaseBits p)
    (henv : s.env = []) (hacks : s.hostAcks = false) (htodo : s.todo = .tx b :: rest) : step s = .next s := by
  rw [step_of_todo_cons hphase htodo, envTick_of_env_nil henv, oweStep_tx_stalled b rest hacks]

/-- Settles O2: the Boot step offers the banner; its three bytes are acknowledged one a step, or the first never. -/
theorem bootStepSendsTheBanner : Obligations.BootStepSendsTheBanner := by
  rintro s ⟨hphase, htodo, henv⟩ hcheck
  have hboot : step s = .next { s with todo := bannerActions } := by
    rw [step_of_boot_passed hphase htodo hcheck, envTick_of_env_nil henv]
  have hphase' : ({ s with todo := bannerActions } : State).phase = phaseBits .boot := hphase
  refine ⟨fun hacks => ?_, fun hacks k => ?_⟩
  · rw [runSteps_succ hboot]
    refine (owedBytesCompleteAfterAsManyAcknowledgments _ .boot hphase' henv hacks (.inr ⟨_, _, rfl⟩)).trans ?_
    simp [State.settle, bannerActions, appliedAll, Action.applied, State.setPhase, htodo, bannerFirst, asciiUpperK,
      asciiUpperB]
  · rw [runSteps_succ hboot]
    exact runSteps_of_step_self (step_of_stalled hphase' henv hacks rfl) k

end Sys2Proof.Machine
end

section
/-! PROOF. Repeated makes of the caps-lock key (70_reset_and_hazards.md R324). -/

namespace Sys2Proof.Machine

/-- `s` with `n` makes of the caps-lock key taken, `left` remaining. -/
def State.capsMade (s : State) (n : Nat) (left : List Byte) : State :=
  { s.taken n left with m := { s.m with cl := if n % 2 = 0 then s.m.cl else !s.m.cl } }

theorem capsMade_one_capsMade (s : State) (n : Nat) (left left' : List Byte) :
    (s.capsMade 1 left).capsMade n left' = s.capsMade (n + 1) left' := by
  have hparity : (n + 1) % 2 = 0 ↔ ¬n % 2 = 0 := by omega
  have hpos : s.inPos + 1 + n = s.inPos + (n + 1) := by omega
  by_cases h : n % 2 = 0
  · simp [State.capsMade, State.taken, hparity, hpos, h]
  · simp [State.capsMade, State.taken, hparity, hpos, h]

theorem holds_capsMade {s : State} {p : Phase} {bytes : List Byte} (h : Holds s p bytes) (n : Nat)
    (left : List Byte) : Holds (s.capsMade n left) p left := by
  obtain ⟨⟨hphase, htodo, henv⟩, hstalled, -⟩ := h
  exact ⟨⟨hphase, htodo, henv⟩, hstalled, rfl⟩

/-- With opt.SW = 0 the make of code 0x58 is the toggle key's (42_locks_modifiers_fkeys.md R198). -/
theorem step_of_capsM {s : State} {rest : List Byte} (hsw : s.opt.sw = false) (h : Holds s .idle (0x58 :: rest)) :
    step s = .next (s.capsMade 1 rest) := by
  have ⟨⟨hphase, htodo, _⟩, _⟩ := h
  calc step s = capsKey false (s.readTo 1 rest .idle) := step_of_completing h rfl
    _ = toggleKey false (s.readTo 1 rest .idle) := capsKey_of_sw_false (s := s.readTo 1 rest .idle) hsw false
    _ = .next (runActions [.enter .idle] ((s.readTo 1 rest .idle).setMod .CL (!s.m.cl))) :=
        congrArg Host.Outcome.next (perform_of_todo_nil (s := (s.readTo 1 rest .idle).setMod .CL (!s.m.cl)) htodo _)
    _ = .next (s.capsMade 1 rest) := by
        simp [State.capsMade, State.readTo, State.taken, State.setMod, State.setPhase, hphase, htodo]

/-- Settles O59, by induction on the number of makes. -/
theorem repeatedCapsLockMakesToggle : Obligations.RepeatedCapsLockMakesToggle := by
  intro s n rest hsw hholds
  change runSteps n s = .next (s.capsMade n rest)
  induction n generalizing s with
  | zero =>
    obtain ⟨-, -, hbuffer⟩ := hholds
    rw [runSteps_zero, State.capsMade, State.taken, show rest = s.rx.buffer from hbuffer.symm]
    rfl
  | succ n ih =>
    rw [List.replicate_succ, List.cons_append] at hholds
    calc runSteps (n + 1) s = runSteps n (s.capsMade 1 (List.replicate n 0x58 ++ rest)) :=
          runSteps_succ (step_of_capsM hsw hholds)
      _ = .next ((s.capsMade 1 (List.replicate n 0x58 ++ rest)).capsMade n rest) :=
          ih (s.capsMade 1 _) hsw (holds_capsMade hholds 1 _)
      _ = .next (s.capsMade (n + 1) rest) := by rw [capsMade_one_capsMade]

end Sys2Proof.Machine
end
